-- ==== Sys2Proof/Word.lean ====
section
/-! DEFINITION. The word types of SA-CANUART: bytes, CAN identifiers and the status word
(spec/00_scope.md rules R8 and R13, spec/10_state.md rule R33). -/

namespace Sys2Proof

/-- An unsigned 8-bit value (R8). -/
abbrev Byte := BitVec 8

/-- `Id`, an unsigned number below 2^29 (R13). -/
abbrev Id := BitVec 29

/-- The 16-bit STATUS word (R33). -/
abbrev StatusWord := BitVec 16

end Sys2Proof
end

