-- ==== Sys2Proof/Config.lean ====
section
/-! DEFINITION. The implementation parameters of spec/00_scope.md rule R7 and the values the spec leaves
open. Parameters with one value are constants; parameters with several values are fields of `Params`,
which the state holds and no step writes; the open values are opaque constants, so that nothing can be
proved about which value they have. -/

namespace Sys2Proof

/-- `MODE_ATTEMPTS` (R7; 5 attempts in total, spec/90_conflicts.md C1). -/
def Config.modeAttempts : Nat := 5
/-- `N_TXBUF` (R7). -/
abbrev Config.nTxBuf : Nat := 3
/-- `N_RXBUF` (R7). -/
abbrev Config.nRxBuf : Nat := 2
/-- `N_MASK` (R7). -/
abbrev Config.nMask : Nat := 2
/-- The first part of `N_FILT`: RXF0 upward, the filters of RXB0 (R7 "2 for RXB0"; spec/20_memory.md rule R74). -/
abbrev Config.nFiltRxb0 : Nat := 2
/-- The second part of `N_FILT`: the filters after those, of RXB1 (R7 "4 for RXB1"; R74). -/
abbrev Config.nFiltRxb1 : Nat := 4
/-- `N_FILT` (R7). -/
abbrev Config.nFilt : Nat := Config.nFiltRxb0 + Config.nFiltRxb1
/-- `MODE_ATTEMPT_TIMEOUT` in milliseconds (R7). No rule of the model depends on it (R293): what it stands for is
the draw of `AttemptExpired` (spec/42_controller_ops.md rule R151). -/
def Config.modeAttemptTimeout : Nat := 200
/-- `STD_ID_BITS` (R7). -/
def Config.stdIdBits : Nat := 11
/-- `EXT_ID_BITS` (R7). -/
def Config.extIdBits : Nat := 29
/-- `MAX_CAN_PAYLOAD` (R7). -/
def Config.maxCanPayload : Nat := 8
/-- `MAX_BURST` (R7). -/
def Config.maxBurst : Nat := 16
/-- `UART_MAX_PAYLOAD` (R7). -/
def Config.uartMaxPayload : Nat := 255
/-- `UART_HEADER` (R7). -/
def Config.uartHeader : Byte := 0x2E
/-- `UART_ACK` (R7). -/
def Config.uartAck : Byte := 0xFF
/-- `SPI_DUMMY` (R7). -/
def Config.spiDummy : Byte := 0x00

/-! ### `DEV`, the constants of the device -/

/-- An instruction byte: its fixed bits, and the mask that says which they are (spec/30_encoding.md rule R92). -/
structure BytePattern where
  byte : Byte
  mask : Byte
deriving DecidableEq, Repr

/-- The table `DEV` of R7: the device's instruction bytes, register addresses, field positions and mode codes.
Every rule names them through this table, so that a wrong entry is corrected here alone (spec/20_memory.md,
opening). A field position is the number of the field's lowest bit; widths and access are those of R66
(`Sys2Proof.Machine.regFields`). The table's values are `Config.dev` (Sys2Proof/Decode.lean). -/
structure DeviceTable where
  /-- The instruction bytes (R92). -/
  reset : BytePattern
  read : BytePattern
  readRx : BytePattern
  write : BytePattern
  loadTx : BytePattern
  rts : BytePattern
  readStatus : BytePattern
  rxStatus : BytePattern
  bitModify : BytePattern
  /-- The fields of the instruction bytes (R92): n and m of READ RX BUFFER, abc of LOAD TX BUFFER, t of RTS. -/
  readRxN : Nat
  readRxM : Nat
  loadTxAbc : Nat
  rtsT : Nat
  /-- The addresses of the registers (spec/20_memory.md rule R65). -/
  bfpctrl : Byte
  txrtsctrl : Byte
  canstat : Byte
  canctrl : Byte
  tecReg : Byte
  recReg : Byte
  cnf3 : Byte
  cnf2 : Byte
  cnf1 : Byte
  caninte : Byte
  canintf : Byte
  eflg : Byte
  /-- The bases of the buffers (R68), and of the filters and masks (R74). -/
  txb : Vector Byte Config.nTxBuf
  rxb : Vector Byte Config.nRxBuf
  rxf : Vector Byte Config.nFilt
  rxm : Vector Byte Config.nMask
  /-- Where a buffer's SIDH, SIDL, DLC and D0 stand from its base (R68). -/
  sidhOffset : Byte
  sidlOffset : Byte
  dlcOffset : Byte
  dataOffset : Byte
  /-- CANCTRL (R66). -/
  reqop : Nat
  abat : Nat
  osm : Nat
  clken : Nat
  clkpre : Nat
  /-- CANSTAT (R66). -/
  opmod : Nat
  icod : Nat
  /-- CNF1, CNF2 and CNF3 (R66). -/
  sjw : Nat
  brp : Nat
  btlmode : Nat
  sam : Nat
  phseg1 : Nat
  prseg : Nat
  sof : Nat
  wakfil : Nat
  phseg2 : Nat
  /-- CANINTE (R66). -/
  merre : Nat
  wakie : Nat
  errie : Nat
  txie : Vector Nat Config.nTxBuf
  rxie : Vector Nat Config.nRxBuf
  /-- CANINTF (R66). -/
  merrf : Nat
  wakif : Nat
  errif : Nat
  txif : Vector Nat Config.nTxBuf
  rxif : Vector Nat Config.nRxBuf
  /-- EFLG (R66). -/
  rxovr : Vector Nat Config.nRxBuf
  txbo : Nat
  txep : Nat
  rxep : Nat
  txwar : Nat
  rxwar : Nat
  ewarn : Nat
  /-- TXBnCTRL (R66). -/
  abtf : Nat
  mloa : Nat
  txerr : Nat
  txreq : Nat
  txp : Nat
  /-- SIDL of a buffer, a filter or a mask (R66, R97): SID2 to SID0, EID17 and EID16, the extended-identifier
  flag (EXIDE, IDE), and SRR. -/
  sidlSid : Nat
  sidlEid : Nat
  sidlExt : Nat
  sidlSrr : Nat
  /-- DLC of a buffer (R66, R98): RTR, the reserved RB1 and RB0, and the length. -/
  dlcRtr : Nat
  dlcRb : Nat
  dlcLen : Nat
  /-- RXBnCTRL (R66). -/
  rxmMode : Nat
  rxrtr : Nat
  bukt : Nat
  bukt1 : Nat
  filhit : Nat
  /-- BFPCTRL and TXRTSCTRL (R66). -/
  bfs : Vector Nat Config.nRxBuf
  bfe : Vector Nat Config.nRxBuf
  bfm : Vector Nat Config.nRxBuf
  rtsPin : Vector Nat Config.nTxBuf
  rtsMode : Vector Nat Config.nTxBuf
  /-- RXnIF, TXREQ and TXnIF in the READ STATUS byte (R72). -/
  statusRxif : Vector Nat Config.nRxBuf
  statusTxreq : Vector Nat Config.nTxBuf
  statusTxif : Vector Nat Config.nTxBuf
  /-- The RX STATUS byte (spec/41_spi_access.md rule R126): "message in RXBn", "extended" and "remote" of the frame,
  and the three bits of the filter that matched. -/
  rxStatusRxif : Vector Nat Config.nRxBuf
  rxStatusExt : Nat
  rxStatusRtr : Nat
  rxStatusFilter : Nat
  /-- What the filter bits are for each filter (R126), and for each of RXB0's filters with rollover to RXB1. -/
  rxStatusFilterCode : Vector (BitVec 3) Config.nFilt
  rxStatusRollover : Vector (BitVec 3) Config.nFiltRxb0
  /-- The mode codes of REQOP and OPMOD (R69). -/
  normalCode : BitVec 3
  loopbackCode : BitVec 3
  listenOnlyCode : BitVec 3
  configCode : BitVec 3
deriving DecidableEq, Repr

/-- `UART_ACK_POLICY` (R7, spec/44_uart_framer.md rule R231). -/
inductive AckPolicy where
  | everyFrame
  | validOnly
  | never
deriving DecidableEq, Repr

/-- `RX_STD_RTR_SOURCE` (R7, spec/43_id_codec.md rule R198). -/
inductive RtrSource where
  | dlc6
  | sidl4
deriving DecidableEq, Repr

/-- One entry of `BITRATE_TABLE`: (bitrate, crystal) to (CNF1, CNF2, CNF3) (R7). -/
structure BitrateEntry where
  bitrate : Nat
  crystal : Nat
  cnf1 : Byte
  cnf2 : Byte
  cnf3 : Byte
deriving DecidableEq, Repr

/-- The parameters of R7 that have more than one value. -/
structure Params where
  /-- `BITRATE_TABLE`; the first entry of a pair counts. -/
  bitrateTable : List BitrateEntry
  /-- `UART_CHECKSUM_ENFORCE`. -/
  checksumEnforce : Bool
  /-- `UART_ACK_POLICY`. -/
  ackPolicy : AckPolicy
  /-- `RX_STD_RTR_SOURCE`. -/
  rtrSource : RtrSource
deriving DecidableEq, Repr

/-- `BITRATE_TABLE` is OPEN (R7, spec/92_eei_decisions.md D39): no entry is given. Log 6. -/
opaque Config.bitrateTable : List BitrateEntry

/-- The default parameters of R7. -/
def Config.defaults : Params where
  bitrateTable := Config.bitrateTable
  checksumEnforce := true
  ackPolicy := .everyFrame
  rtrSource := .dlc6

/-- Free bytes: the k-th byte the device agent chooses "with no law" (spec/20_memory.md rule R60) once
the environment's own list is used up. Log 4. -/
opaque Config.freeByte : Nat → Byte

/-- Free Booleans: the k-th AttemptExpired draw (spec/42_controller_ops.md rule R151) once the
environment's own list is used up. Log 5. -/
opaque Config.freeExpiry : Nat → Bool

/-- The unspecified contents of the reference device's buffers, filters and masks after its `epoch`-th
reset, by address (spec/20_memory.md rule R70). Log 11. -/
opaque Config.devPowerOn : Nat → Nat → Byte

end Sys2Proof
end

