-- ==== Sys2Proof/Syntax.lean ====
section
/-! DEFINITION. The instructions of SA-CANUART and the types of their operands: the 26 host operations of
spec/30_encoding.md rule R90 and the 9 SPI instructions of rule R92, one constructor per row of
spec/opcode_table.json. Operand types are those of spec/00_scope.md rule R13. -/

namespace Sys2Proof

/-- `Mode` (R13). -/
inductive Mode where
  | normal
  | loopback
  | listenOnly
  | config
deriving DecidableEq, Repr

/-- `BusState` (R13). -/
inductive BusState where
  | errorActive
  | errorWarning
  | errorPassive
  | busOff
deriving DecidableEq, Repr

/-- An identifier image, four bytes (R97). -/
structure IdImage where
  sidh : Byte
  sidl : Byte
  eid8 : Byte
  eid0 : Byte
deriving DecidableEq, Repr

/-- A buffer image, 13 bytes (R99). -/
structure BufferImage where
  ident : IdImage
  dlc : Byte
  d0 : Byte
  d1 : Byte
  d2 : Byte
  d3 : Byte
  d4 : Byte
  d5 : Byte
  d6 : Byte
  d7 : Byte
deriving DecidableEq, Repr

/-- `CanFrame` (R13). -/
structure CanFrame where
  id : Id
  ext : Bool
  rtr : Bool
  data : List Byte
deriving DecidableEq, Repr

/-- `IdSpec` (R13). -/
structure IdSpec where
  value : Id
  ext : Bool
deriving DecidableEq, Repr

/-- The record of a non-empty `FilterSet`: all 2 masks and all 6 filters (R170). -/
structure FilterRecord where
  mask0 : IdSpec
  mask1 : IdSpec
  filt0 : IdSpec
  filt1 : IdSpec
  filt2 : IdSpec
  filt3 : IdSpec
  filt4 : IdSpec
  filt5 : IdSpec
deriving DecidableEq, Repr

/-- `FilterSet` (R13, R170). -/
inductive FilterSet where
  | empty
  | full (r : FilterRecord)
deriving DecidableEq, Repr

/-- The instructions: one constructor per row of spec/opcode_table.json. How wide `t` of RTS and `sel` of LOAD_TX
and READ_RX are on the command port the spec leaves open (R90 gives `t` 3 bits and `sel` 0..5 and 0..3; R102 and R127
to R129 check for larger values); that each is a Byte, so that values up to 255 can be offered and report
IllegalOperand and larger ones do not exist, is the model's choice: DESIGN CHOICE, log 29. -/
inductive Instr where
  -- host operations (R90)
  | getStatus
  | encId (id : Id) (ext : Bool)
  | decId (img : IdImage)
  | encDlc (n : Byte) (rtr : Bool)
  | decDlc (b : Byte)
  | encFrame (f : CanFrame)
  | decFrame (img : BufferImage)
  | uartCks (type : Byte) (payload : List Byte)
  | uartBuild (type : Byte) (payload : List Byte)
  | uartSend (type : Byte) (payload : List Byte)
  | uartParse (bytes : List Byte)
  | spiReset
  | regRead (addr : Byte) (n : Nat)
  | regWrite (addr : Byte) (data : List Byte)
  | bitModify (addr : Byte) (mask : Byte) (data : Byte)
  | readStatus
  | rxStatus
  | rts (t : Byte)
  | loadTx (sel : Byte) (data : List Byte)
  | readRx (sel : Byte) (n : Nat)
  | init (bitrate : Nat) (crystal : Nat) (mode : Mode) (silent : Bool)
  | setMode (mode : Mode)
  | send (f : CanFrame)
  | pollReceive
  | busState
  | listen (fs : FilterSet)
  -- SPI instructions (R92): the frames on the device's port
  | spiInstrReset
  | spiRead (addr : Byte) (n : Nat)
  | spiReadRxBuffer (n : Bool) (m : Bool) (count : Nat)
  | spiWrite (addr : Byte) (data : List Byte)
  | spiLoadTxBuffer (abc : BitVec 3) (data : List Byte)
  | spiRts (t : BitVec 3)
  | spiReadStatus
  | spiRxStatus
  | spiBitModify (addr : Byte) (mask : Byte) (data : Byte)
deriving DecidableEq, Repr

/-- `REG_READ1 a`, a pseudo-operation (R105). -/
def Instr.regRead1 (a : Byte) : Instr := .regRead a 1
/-- `REG_WRITE1 a, v` (R105). -/
def Instr.regWrite1 (a v : Byte) : Instr := .regWrite a [v]
/-- `SET_BITS a, m` (R105). -/
def Instr.setBits (a m : Byte) : Instr := .bitModify a m m
/-- `CLR_BITS a, m` (R105). -/
def Instr.clrBits (a m : Byte) : Instr := .bitModify a m 0x00
/-- `SEND_STD id, [bytes]` (R105). -/
def Instr.sendStd (id : Id) (data : List Byte) : Instr := .send ⟨id, false, false, data⟩
/-- `SEND_EXT id, [bytes]` (R105). -/
def Instr.sendExt (id : Id) (data : List Byte) : Instr := .send ⟨id, true, false, data⟩

end Sys2Proof
end

