-- ==== Sys2Proof/WellFormed.lean ====
section
/-! DEFINITION. When an instruction's operands lie in the domains of spec/30_encoding.md rules R90, R92,
R93 and R102. A host operation outside its domain is still an operation: it runs and reports the error
R102 names. An SPI transaction's length is its framing alone (R96), so of the SPI instructions only the reserved LOAD TX
BUFFER values of R93 are refused. -/

namespace Sys2Proof

/-- An identifier fits the width its tag declares (R13). -/
def fitsWidth (id : Id) (ext : Bool) : Bool :=
  if ext then decide (id.toNat < 2 ^ Config.extIdBits) else decide (id.toNat < 2 ^ Config.stdIdBits)

/-- A `CanFrame` is well-formed (R13). -/
def CanFrame.wf (f : CanFrame) : Bool :=
  decide (f.data.length ≤ Config.maxCanPayload) && fitsWidth f.id f.ext

/-- An `IdSpec` is well-formed, "as for CanFrame" (R13). -/
def IdSpec.wf (x : IdSpec) : Bool := fitsWidth x.value x.ext

/-- The specs of a filter record, masks first (R170). -/
def FilterRecord.specs (r : FilterRecord) : List IdSpec :=
  [r.mask0, r.mask1, r.filt0, r.filt1, r.filt2, r.filt3, r.filt4, r.filt5]

/-- Every spec of a filter set fits its width (R102, R171). -/
def FilterSet.wf : FilterSet → Bool
  | .empty => true
  | .full r => r.specs.all IdSpec.wf

/-- A burst the block lets through: 1 to MAX_BURST bytes, none past 0x7F (R56). -/
def burstOk (addr : Byte) (n : Nat) : Bool :=
  decide (1 ≤ n) && decide (n ≤ Config.maxBurst) && decide (addr.toNat + n ≤ 0x80)

/-- A buffer burst: up to 13 bytes from SIDH, up to 8 from D0 (R102). -/
def bufferBurstOk (fromData : Bool) (n : Nat) : Bool :=
  decide (1 ≤ n) && decide (n ≤ if fromData then 8 else 13)

/-- The operands lie in their domains. -/
def Instr.wf : Instr → Bool
  | .getStatus => true
  | .encId id ext => fitsWidth id ext
  | .decId _ => true
  | .encDlc n _ => decide (n.toNat ≤ Config.maxCanPayload)
  | .decDlc _ => true
  | .encFrame f => f.wf
  | .decFrame _ => true
  | .uartCks _ p => decide (p.length ≤ Config.uartMaxPayload)
  | .uartBuild _ p => decide (p.length ≤ Config.uartMaxPayload)
  | .uartSend _ p => decide (p.length ≤ Config.uartMaxPayload)
  | .uartParse _ => true
  | .spiReset => true
  | .regRead addr n => burstOk addr n
  | .regWrite addr data => burstOk addr data.length
  | .bitModify addr _ _ => decide (addr.toNat ≤ 0x7F)
  | .readStatus => true
  | .rxStatus => true
  | .rts t => decide (1 ≤ t.toNat) && decide (t.toNat ≤ 7)
  | .loadTx sel data => decide (sel.toNat ≤ 5) && bufferBurstOk (sel.getLsbD 0) data.length
  | .readRx sel n => decide (sel.toNat ≤ 3) && bufferBurstOk (sel.getLsbD 0) n
  | .init _ _ mode _ => decide (mode ≠ .config)
  | .setMode _ => true
  | .send f => f.wf
  | .pollReceive => true
  | .busState => true
  | .listen fs => fs.wf
  | .spiInstrReset => true
  | .spiRead _ _ => true
  | .spiReadRxBuffer _ _ _ => true
  | .spiWrite _ _ => true
  | .spiLoadTxBuffer abc _ => decide (abc.toNat ≤ 5)
  | .spiRts _ => true
  | .spiReadStatus => true
  | .spiRxStatus => true
  | .spiBitModify _ _ _ => true

/-- Proposition form of `Instr.wf`. -/
abbrev Instr.WellFormed (i : Instr) : Prop := i.wf = true

end Sys2Proof
end

