-- ==== Sys2Proof/Decode.lean ====
section
/-! DEFINITION. Decoding and encoding. A host operation is an 8-bit opcode together with a typed operand
record (spec/30_encoding.md rule R90: "not a byte serialisation"), so its encoding is a `Command`. An SPI
instruction is a frame of bytes on MOSI (rule R92). Both decoders are total and reject by name. -/

namespace Sys2Proof

/-! ### `DEV` -/

/-- `DEV` (R7, R92, R65 to R69, R72, R74, R126). It stands in this file so that a test of the model can correct an
entry. -/
def Config.dev : DeviceTable where
  reset := ⟨0xC0, 0xFF⟩
  read := ⟨0x03, 0xFF⟩
  readRx := ⟨0x90, 0xF9⟩
  write := ⟨0x02, 0xFF⟩
  loadTx := ⟨0x40, 0xF8⟩
  rts := ⟨0x80, 0xF8⟩
  readStatus := ⟨0xA0, 0xFF⟩
  rxStatus := ⟨0xB0, 0xFF⟩
  bitModify := ⟨0x05, 0xFF⟩
  readRxN := 2
  readRxM := 1
  loadTxAbc := 0
  rtsT := 0
  bfpctrl := 0x0C
  txrtsctrl := 0x0D
  canstat := 0x0E
  canctrl := 0x0F
  tecReg := 0x1C
  recReg := 0x1D
  cnf3 := 0x28
  cnf2 := 0x29
  cnf1 := 0x2A
  caninte := 0x2B
  canintf := 0x2C
  eflg := 0x2D
  txb := #v[0x30, 0x40, 0x50]
  rxb := #v[0x60, 0x70]
  rxf := #v[0x00, 0x04, 0x08, 0x10, 0x14, 0x18]
  rxm := #v[0x20, 0x24]
  sidhOffset := 1
  sidlOffset := 2
  dlcOffset := 5
  dataOffset := 6
  reqop := 5
  abat := 4
  osm := 3
  clken := 2
  clkpre := 0
  opmod := 5
  icod := 1
  sjw := 6
  brp := 0
  btlmode := 7
  sam := 6
  phseg1 := 3
  prseg := 0
  sof := 7
  wakfil := 6
  phseg2 := 0
  merre := 7
  wakie := 6
  errie := 5
  txie := #v[2, 3, 4]
  rxie := #v[0, 1]
  merrf := 7
  wakif := 6
  errif := 5
  txif := #v[2, 3, 4]
  rxif := #v[0, 1]
  rxovr := #v[6, 7]
  txbo := 5
  txep := 4
  rxep := 3
  txwar := 2
  rxwar := 1
  ewarn := 0
  abtf := 6
  mloa := 5
  txerr := 4
  txreq := 3
  txp := 0
  sidlSid := 5
  sidlEid := 0
  sidlExt := 3
  sidlSrr := 4
  dlcRtr := 6
  dlcRb := 4
  dlcLen := 0
  rxmMode := 5
  rxrtr := 3
  bukt := 2
  bukt1 := 1
  filhit := 0
  bfs := #v[4, 5]
  bfe := #v[2, 3]
  bfm := #v[0, 1]
  rtsPin := #v[3, 4, 5]
  rtsMode := #v[0, 1, 2]
  statusRxif := #v[0, 1]
  statusTxreq := #v[2, 4, 6]
  statusTxif := #v[3, 5, 7]
  rxStatusRxif := #v[6, 7]
  rxStatusExt := 4
  rxStatusRtr := 3
  rxStatusFilter := 0
  rxStatusFilterCode := #v[0b000#3, 0b001#3, 0b010#3, 0b011#3, 0b100#3, 0b101#3]
  rxStatusRollover := #v[0b110#3, 0b111#3]
  normalCode := 0b000#3
  loopbackCode := 0b010#3
  listenOnlyCode := 0b011#3
  configCode := 0b100#3

/-! ### Host operations (R90, R91) -/

/-- The mnemonics of R90. -/
inductive Opcode where
  | getStatus | encId | decId | encDlc | decDlc | encFrame | decFrame
  | uartCks | uartBuild | uartSend | uartParse
  | spiReset | regRead | regWrite | bitModify | readStatus | rxStatus | rts | loadTx | readRx
  | init | setMode | send | pollReceive | busState | listen
deriving DecidableEq, Repr

/-- The opcode byte of each mnemonic: the first column of R90's table. -/
def Opcode.byte : Opcode → Byte
  | .getStatus => 0x01
  | .encId => 0x10
  | .decId => 0x11
  | .encDlc => 0x12
  | .decDlc => 0x13
  | .encFrame => 0x14
  | .decFrame => 0x15
  | .uartCks => 0x20
  | .uartBuild => 0x21
  | .uartSend => 0x22
  | .uartParse => 0x23
  | .spiReset => 0x30
  | .regRead => 0x31
  | .regWrite => 0x32
  | .bitModify => 0x33
  | .readStatus => 0x34
  | .rxStatus => 0x35
  | .rts => 0x36
  | .loadTx => 0x37
  | .readRx => 0x38
  | .init => 0x40
  | .setMode => 0x41
  | .send => 0x42
  | .pollReceive => 0x43
  | .busState => 0x44
  | .listen => 0x45

/-- Every row of R90. -/
def Opcode.all : List Opcode :=
  [.getStatus, .encId, .decId, .encDlc, .decDlc, .encFrame, .decFrame,
   .uartCks, .uartBuild, .uartSend, .uartParse,
   .spiReset, .regRead, .regWrite, .bitModify, .readStatus, .rxStatus, .rts, .loadTx, .readRx,
   .init, .setMode, .send, .pollReceive, .busState, .listen]

/-- The row an opcode byte selects; none for the illegal bytes of R91. -/
def Opcode.ofByte (b : Byte) : Option Opcode := Opcode.all.find? fun o => o.byte == b

/-- One typed operand of R90's operand records. `t` of RTS and `sel` of LOAD_TX and READ_RX are bytes: the model's
choice (log 29). -/
inductive Operand where
  | byte (b : Byte)
  | nat (n : Nat)
  | bool (b : Bool)
  | ident (id : Id)
  | bytes (l : List Byte)
  | idImage (img : IdImage)
  | bufferImage (img : BufferImage)
  | frame (f : CanFrame)
  | mode (m : Mode)
  | filters (fs : FilterSet)
deriving DecidableEq, Repr

/-- What the host offers on the command port: an opcode and an operand record (R90). -/
structure Command where
  opcode : Byte
  operands : List Operand
deriving DecidableEq, Repr

/-- Where an instruction comes from: the command port, or the device's SPI port. -/
inductive Encoding where
  | host (c : Command)
  | spi (frame : List Byte)
deriving DecidableEq, Repr

/-- Why a decoder rejects. -/
inductive DecodeError where
  /-- An opcode byte not in R90 (R91). -/
  | illegalOpcode (opcode : Byte)
  /-- An operand record that is not the one R90 fixes for the opcode. Log 19. -/
  | operandShape (opcode : Byte)
  /-- An SPI transaction of no bytes (R10 asks for at least one). -/
  | spiEmpty
  /-- A first MOSI byte outside R92. -/
  | spiUnknown (first : Byte)
  /-- A frame whose first byte is in R92 and which is none of the frames R92 gives it: LOAD TX BUFFER with the
  reserved values of R93, a READ or WRITE without its address, a dummy byte that is not SPI_DUMMY, a wrong
  length of an instruction whose length R92 fixes. -/
  | spiFrame (first : Byte)
deriving DecidableEq, Repr

/-- The operation an opcode and an operand record stand for (R90). -/
def decodeRecord (o : Opcode) (ops : List Operand) : Option Instr :=
  match o, ops with
  | .getStatus, [] => some .getStatus
  | .encId, [.ident id, .bool ext] => some (.encId id ext)
  | .decId, [.idImage img] => some (.decId img)
  | .encDlc, [.byte n, .bool rtr] => some (.encDlc n rtr)
  | .decDlc, [.byte b] => some (.decDlc b)
  | .encFrame, [.frame f] => some (.encFrame f)
  | .decFrame, [.bufferImage img] => some (.decFrame img)
  | .uartCks, [.byte t, .bytes p] => some (.uartCks t p)
  | .uartBuild, [.byte t, .bytes p] => some (.uartBuild t p)
  | .uartSend, [.byte t, .bytes p] => some (.uartSend t p)
  | .uartParse, [.bytes l] => some (.uartParse l)
  | .spiReset, [] => some .spiReset
  | .regRead, [.byte a, .nat n] => some (.regRead a n)
  | .regWrite, [.byte a, .bytes d] => some (.regWrite a d)
  | .bitModify, [.byte a, .byte m, .byte d] => some (.bitModify a m d)
  | .readStatus, [] => some .readStatus
  | .rxStatus, [] => some .rxStatus
  | .rts, [.byte t] => some (.rts t)
  | .loadTx, [.byte sel, .bytes d] => some (.loadTx sel d)
  | .readRx, [.byte sel, .nat n] => some (.readRx sel n)
  | .init, [.nat b, .nat c, .mode m, .bool silent] => some (.init b c m silent)
  | .setMode, [.mode m] => some (.setMode m)
  | .send, [.frame f] => some (.send f)
  | .pollReceive, [] => some .pollReceive
  | .busState, [] => some .busState
  | .listen, [.filters fs] => some (.listen fs)
  | _, _ => none

/-- Decoding what stands on the command port (R90, R91). -/
def decodeHost (c : Command) : Except DecodeError Instr :=
  match Opcode.ofByte c.opcode with
  | none => .error (.illegalOpcode c.opcode)
  | some o =>
    match decodeRecord o c.operands with
    | none => .error (.operandShape c.opcode)
    | some i => .ok i

/-! ### SPI instructions (R92 to R96) -/

/-- The rows of R92. -/
inductive SpiOp where
  | reset | read | readRx | write | loadTx | rts | readStatus | rxStatus | bitModify
deriving DecidableEq, Repr

/-- The row's entry in `DEV` (R7, R92). -/
def SpiOp.pattern : SpiOp → BytePattern
  | .reset => Config.dev.reset
  | .read => Config.dev.read
  | .readRx => Config.dev.readRx
  | .write => Config.dev.write
  | .loadTx => Config.dev.loadTx
  | .rts => Config.dev.rts
  | .readStatus => Config.dev.readStatus
  | .rxStatus => Config.dev.rxStatus
  | .bitModify => Config.dev.bitModify

/-- `DEV.<name>`: the instruction byte with its field bits 0 (R92). -/
def SpiOp.byte (o : SpiOp) : Byte := o.pattern.byte

/-- The mask of the fixed bits (R92). -/
def SpiOp.mask (o : SpiOp) : Byte := o.pattern.mask

/-- Every row of R92. -/
def SpiOp.all : List SpiOp :=
  [.reset, .read, .readRx, .write, .loadTx, .rts, .readStatus, .rxStatus, .bitModify]

/-- The row of R92 a first MOSI byte matches. -/
def SpiOp.ofByte (b : Byte) : Option SpiOp := SpiOp.all.find? fun o => (b &&& o.mask) == o.byte

/-- A field of a byte with its lowest bit at a position, every other bit 0. -/
def fieldAt {w : Nat} (pos : Nat) (v : BitVec w) : Byte := v.setWidth 8 <<< pos

/-- A byte with bit i set where `b`. -/
def bitIf (b : Bool) (i : Nat) : Byte := fieldAt i (BitVec.ofBool b)

/-- The LOAD TX BUFFER byte (R92, R93). -/
def loadTxByte (abc : BitVec 3) : Byte := SpiOp.byte .loadTx ||| fieldAt Config.dev.loadTxAbc abc

/-- The RTS byte (R92, R95). -/
def rtsByte (t : BitVec 3) : Byte := SpiOp.byte .rts ||| fieldAt Config.dev.rtsT t

/-- The READ RX BUFFER byte (R92, R94). -/
def readRxByte (n m : Bool) : Byte :=
  SpiOp.byte .readRx ||| bitIf n Config.dev.readRxN ||| bitIf m Config.dev.readRxM

/-- `[SPI_DUMMY]*n` (R11). -/
def dummies (n : Nat) : List Byte := List.replicate n Config.spiDummy

/-- Every byte of a list is SPI_DUMMY. -/
def allDummy (l : List Byte) : Bool := l.all fun b => b == Config.spiDummy

/-- The instruction a row, its first byte and the bytes after it stand for; none where R92 gives the
instruction no such frame. -/
def spiInstrOf (o : SpiOp) (b : Byte) (rest : List Byte) : Option Instr :=
  match o, rest with
  | .reset, [] => some .spiInstrReset
  | .read, addr :: ds => if allDummy ds then some (.spiRead addr ds.length) else none
  | .readRx, ds =>
    if allDummy ds then
      some (.spiReadRxBuffer (b.getLsbD Config.dev.readRxN) (b.getLsbD Config.dev.readRxM) ds.length)
    else none
  | .write, addr :: data => some (.spiWrite addr data)
  | .loadTx, data => some (.spiLoadTxBuffer (b.extractLsb' Config.dev.loadTxAbc 3) data)
  | .rts, [] => some (.spiRts (b.extractLsb' Config.dev.rtsT 3))
  | .readStatus, ds => if ds = dummies 1 then some .spiReadStatus else none
  | .rxStatus, ds => if ds = dummies 1 then some .spiRxStatus else none
  | .bitModify, [addr, mask, data] => some (.spiBitModify addr mask data)
  | _, _ => none

/-- Decoding one SPI transaction (R92 to R96): its length is its framing (R96). -/
def decodeSpi (frame : List Byte) : Except DecodeError Instr :=
  match frame with
  | [] => .error .spiEmpty
  | b :: rest =>
    match SpiOp.ofByte b with
    | none => .error (.spiUnknown b)
    | some o =>
      match spiInstrOf o b rest with
      | none => .error (.spiFrame b)
      | some i => if i.wf then .ok i else .error (.spiFrame b)

/-- Decoding, from either port. -/
def decode : Encoding → Except DecodeError Instr
  | .host c => decodeHost c
  | .spi frame => decodeSpi frame

/-! ### Encoding -/

/-- A host operation's command. -/
def command (o : Opcode) (ops : List Operand) : Encoding := .host ⟨o.byte, ops⟩

/-- The encoding of an instruction (R90, R92). -/
def encode : Instr → Encoding
  | .getStatus => command .getStatus []
  | .encId id ext => command .encId [.ident id, .bool ext]
  | .decId img => command .decId [.idImage img]
  | .encDlc n rtr => command .encDlc [.byte n, .bool rtr]
  | .decDlc b => command .decDlc [.byte b]
  | .encFrame f => command .encFrame [.frame f]
  | .decFrame img => command .decFrame [.bufferImage img]
  | .uartCks t p => command .uartCks [.byte t, .bytes p]
  | .uartBuild t p => command .uartBuild [.byte t, .bytes p]
  | .uartSend t p => command .uartSend [.byte t, .bytes p]
  | .uartParse l => command .uartParse [.bytes l]
  | .spiReset => command .spiReset []
  | .regRead a n => command .regRead [.byte a, .nat n]
  | .regWrite a d => command .regWrite [.byte a, .bytes d]
  | .bitModify a m d => command .bitModify [.byte a, .byte m, .byte d]
  | .readStatus => command .readStatus []
  | .rxStatus => command .rxStatus []
  | .rts t => command .rts [.byte t]
  | .loadTx sel d => command .loadTx [.byte sel, .bytes d]
  | .readRx sel n => command .readRx [.byte sel, .nat n]
  | .init b c m silent => command .init [.nat b, .nat c, .mode m, .bool silent]
  | .setMode m => command .setMode [.mode m]
  | .send f => command .send [.frame f]
  | .pollReceive => command .pollReceive []
  | .busState => command .busState []
  | .listen fs => command .listen [.filters fs]
  | .spiInstrReset => .spi [SpiOp.byte .reset]
  | .spiRead a n => .spi ([SpiOp.byte .read, a] ++ dummies n)
  | .spiReadRxBuffer n m count => .spi ([readRxByte n m] ++ dummies count)
  | .spiWrite a d => .spi ([SpiOp.byte .write, a] ++ d)
  | .spiLoadTxBuffer abc d => .spi ([loadTxByte abc] ++ d)
  | .spiRts t => .spi [rtsByte t]
  | .spiReadStatus => .spi ([SpiOp.byte .readStatus] ++ dummies 1)
  | .spiRxStatus => .spi ([SpiOp.byte .rxStatus] ++ dummies 1)
  | .spiBitModify a m d => .spi [SpiOp.byte .bitModify, a, m, d]

/-- The bytes an instruction puts on MOSI: its SPI frame, none for a host operation. -/
def frameOf (i : Instr) : List Byte :=
  match encode i with
  | .host _ => []
  | .spi frame => frame

/-! ### A word of the opcode table -/

/-- The operand record of zeros of each opcode (log 2). -/
def zeroRecord : Opcode → List Operand
  | .getStatus | .spiReset | .readStatus | .rxStatus | .pollReceive | .busState => []
  | .encId => [.ident 0, .bool false]
  | .decId => [.idImage ⟨0, 0, 0, 0⟩]
  | .encDlc => [.byte 0, .bool false]
  | .decDlc => [.byte 0]
  | .encFrame | .send => [.frame ⟨0, false, false, []⟩]
  | .decFrame => [.bufferImage ⟨⟨0, 0, 0, 0⟩, 0, 0, 0, 0, 0, 0, 0, 0, 0⟩]
  | .uartCks | .uartBuild | .uartSend => [.byte 0, .bytes []]
  | .uartParse => [.bytes []]
  | .regRead => [.byte 0, .nat 0]
  | .regWrite => [.byte 0, .bytes []]
  | .bitModify => [.byte 0, .byte 0, .byte 0]
  | .rts => [.byte 0]
  | .loadTx => [.byte 0, .bytes []]
  | .readRx => [.byte 0, .nat 0]
  | .init => [.nat 0, .nat 0, .mode .normal, .bool false]
  | .setMode => [.mode .normal]
  | .listen => [.filters .empty]

/-- How many zero bytes follow the first byte in the shortest frame R57 gives each SPI instruction. -/
def zeroTail : SpiOp → Nat
  | .reset => 0
  | .read => 2
  | .readRx => 1
  | .write => 2
  | .loadTx => 1
  | .rts => 0
  | .readStatus => 1
  | .rxStatus => 1
  | .bitModify => 3

/-- The encoding a word of the opcode table stands for: a host opcode of R90, and where the byte is none
of those, an SPI instruction byte of R92; everything above the word is 0. The rows of R92 and R90
overlap in the bytes 0x40 to 0x45, which are the host's (log 2). -/
def tableEncoding (w : Nat) : Encoding :=
  let b : Byte := BitVec.ofNat 8 w
  match Opcode.ofByte b with
  | some o => command o (zeroRecord o)
  | none =>
    match SpiOp.ofByte b with
    | some o => .spi (b :: List.replicate (zeroTail o) 0)
    | none => .host ⟨b, []⟩

/-- The instruction the decoder reads from a word of the opcode table: every row is 8 bits. -/
def decodeTableWord (nbits w : Nat) : Option Instr :=
  if nbits = 8 ∧ w < 256 then (decode (tableEncoding w)).toOption else none

end Sys2Proof
end

