-- ==== Sys2Proof/Machine/State.lean ====
section
/-! DEFINITION. The state of SA-CANUART as plain data: the SEQ registers (spec/10_state.md rule R20), the
URX registers (R32), the UART transmit stream, the event history (R37), the reference device of
spec/20_memory.md rules R65 to R74, the parameters of R7, and the environment's inputs. -/

namespace Sys2Proof.Machine

/-- `seq_state` (R20, R21). -/
inductive SeqState where
  | idle
  | busy
  | fault
deriving DecidableEq, Repr

/-- `cur_mode` (R20, R26): the mode last confirmed, or UNKNOWN. -/
inductive CurMode where
  | known (m : Mode)
  | unknown
deriving DecidableEq, Repr

/-- The error codes of spec/60_exceptions.md rule R250. -/
inductive ErrorCode where
  | noBufferAvailable
  | frameCorrupt
  | idOutOfRange
  | payloadTooLong
  | illegalOperand
  | illegalCommand
  | notInitialized
  | filterLocked
  | faulted
  | unsupportedBitrate
  | invalidModeCombination
  | modeChangeTimeout
  | chipInitFailure
deriving DecidableEq, Repr

/-- The values operations return (R90, fourth column). -/
inductive Value where
  | unit
  | status (w : StatusWord)
  | byte (b : Byte)
  | bytes (l : List Byte)
  | ident (id : Id) (ext : Bool)
  | dlc (n : Nat) (rtr : Bool)
  | frame (f : CanFrame)
  | frames (l : List CanFrame)
  | uart (type : Byte) (payload : List Byte)
  | index (n : Nat)
  | bus (b : BusState)
deriving DecidableEq, Repr

/-- `result` (R20, R29): NONE, `Ok(v)` or `Err(code, info)`. -/
inductive OpResult where
  | none
  | ok (v : Value)
  | err (e : ErrorCode) (info : Byte)
deriving DecidableEq, Repr

/-- The operation a `Done` event names: one of R90, or an illegal opcode (R91). -/
inductive Operation where
  | legal (i : Instr)
  | illegal (opcode : Byte)
deriving DecidableEq, Repr

/-- The events of R37. -/
inductive Event where
  | spi (tx rx : List Byte)
  | uartTx (unit : List Byte)
  | uartRx (b : Byte)
  | uartFrame (type : Byte) (payload : List Byte) (cksOk : Bool)
  | uartCorrupt (type len got expected : Byte)
  | done (op : Operation) (r : OpResult)
  | reset
deriving DecidableEq, Repr

/-- Which of an operation's ModeSet procedures runs: its first or its second. -/
inductive ModeCall where
  | first
  | second
deriving DecidableEq, Repr

/-- The textual position of R23 at which the next SEQ step goes on: `start`; just after the rule's own
k-th SpiXfer or emit_uart (from 0, those of ModeSet not counted); just after ModeSet's write or poll. The
MODEL's own: in ModeSet's loop the step number alone does not tell the position. Log 8. -/
inductive Point where
  | start
  | sent (k : Nat)
  | modeWritten (c : ModeCall)
  | modePolled (c : ModeCall)
deriving DecidableEq, Repr

/-- `scratch` (R20, R31): an operation's locals, unwritten at acceptance. `rx` and `point` are the MODEL's
own fields (log 8). -/
structure Scratch where
  st : Option Byte
  sel : Option (Fin Config.nTxBuf)
  buf : Option (List Byte)
  prior : Option Mode
  rx : Option (List Byte)
  point : Point
deriving DecidableEq, Repr

/-- `scratch` with every field unwritten, at position 0 (R22, R31). -/
def Scratch.unwritten : Scratch where
  st := none
  sel := none
  buf := none
  prior := none
  rx := none
  point := .start

/-- `u_state` (R32). -/
inductive UrxState where
  | hunt
  | type
  | len
  | data
  | cks
deriving DecidableEq, Repr

/-- The URX registers (R32). -/
structure Urx where
  state : UrxState
  utype : Byte
  len : Byte
  cnt : Nat
  buf : Vector Byte 255
  sum : Byte
deriving DecidableEq, Repr

/-- The URX registers at block reset (R32, R235). -/
def Urx.reset : Urx where
  state := .hunt
  utype := 0x00
  len := 0x00
  cnt := 0
  buf := Vector.replicate 255 0x00
  sum := 0x00

/-- What is assumed of the device (R60): nothing; the reference model of R70 to R73; the reference model in
the simulator variant of R71, which changes mode before the next transaction. Log 10. -/
inductive DeviceLaw where
  | any
  | reference
  | simulator
deriving DecidableEq, Repr

/-- The reference device (R70): its register file as a canonical list of cells, which reset its
unspecified contents belong to, and the requested modes OPMOD has not taken, oldest first (R71). Log 14. -/
structure Device where
  law : DeviceLaw
  regs : List Host.Cell
  epoch : Nat
  modeReqs : List (BitVec 3)
deriving DecidableEq, Repr

/-- Who moves in a step (R15, R256), and the device's own activity (R71, R73). Log 3. -/
inductive Turn where
  /-- SEQ, taking the operation on the command port where it is not BUSY. -/
  | seq
  /-- The host offers an operation on the command port, if the port is free (R15.1, R21). -/
  | host (c : Command)
  /-- The peer supplies a byte of the UART receive stream (R15.5). -/
  | peer (b : Byte)
  /-- URX consumes a byte, if one is present (R230). -/
  | urx
  /-- Block reset is asserted (R280). -/
  | blockReset
  /-- The reference device's OPMOD takes the k-th requested mode (R71). -/
  | deviceMode (k : Nat)
  /-- A frame on the CAN bus reaches the reference device (R73, R74). `named` and `other` decide what the spec
  leaves open (log 16). -/
  | busFrame (named : Fin Config.nFilt) (img : BufferImage) (other : Bool)
  /-- A requested transmission of TXBn completes, where the device transmits (R73, R289); `named`, `img` and
  `other` decide what the spec leaves open of its own reception in loopback mode (log 16). -/
  | txDone (n : Fin Config.nTxBuf) (named : Fin Config.nFilt) (img : BufferImage) (other : Bool)
deriving DecidableEq, Repr, Inhabited

/-- Free turns: the k-th choice of who moves, once the environment's own list is used up. The agents interleave
freely, and the host and the peer act at any time (R15, R256). Log 3. -/
opaque Config.freeTurn : Nat → Turn

/-- The environment's inputs as data, and how many free values were taken. Logs 3, 4, 5. -/
structure Env where
  turns : List Turn
  /-- The operation the host offers on the command port (R21). -/
  hostPort : Option Command
  /-- The UART receive stream: the bytes that have arrived and that URX has not consumed (R51). -/
  uartRx : List Byte
  miso : List Byte
  expiry : List Bool
  turnDraws : Nat
  byteDraws : Nat
  expiryDraws : Nat
deriving DecidableEq, Repr

/-- No input, no free value taken. -/
def Env.empty : Env where
  turns := []
  hostPort := none
  uartRx := []
  miso := []
  expiry := []
  turnDraws := 0
  byteDraws := 0
  expiryDraws := 0

/-- The machine's state. -/
structure State where
  /-- The parameters of R7 with more than one value; no step writes them (R34, R281). -/
  cfg : Params
  seqState : SeqState
  op : Option Command
  step : Nat
  attempt : Nat
  initialized : Bool
  curMode : CurMode
  filtersLocked : Bool
  faultCode : Byte
  result : OpResult
  rxFifo : List CanFrame
  scratch : Scratch
  urx : Urx
  /-- The outbound UART stream, unit by unit (R233). -/
  uartTx : List (List Byte)
  dev : Device
  env : Env
  /-- The event history (R37). -/
  history : List Event
  /-- A frame on the device's SPI port that SEQ did not send: the MODEL's own (log 9). -/
  link : Option (List Byte)
deriving DecidableEq, Repr

/-- Why the machine stops. -/
inductive Fault where
  /-- `ReadUnwritten` (R31, U10): a scratch field was read before the operation wrote it. Raised by the
  meanings of the operations with SPI transactions; no run from reset raises it. Safe. -/
  | readUnwritten
  /-- The position `scratch.point` is none of the operation's rule. The model's own (log 26); raised by
  every host operation's meaning; no run from reset raises it. Safe. -/
  | noSuchPosition
  /-- SEQ is BUSY and `op` holds no operation. The model's own (log 26); raised by step; no run from reset
  raises it. Safe. -/
  | noOperation
deriving DecidableEq, Repr

/-- Why an instruction has no meaning. -/
inductive Refusal where
  /-- An instruction not modelled yet. No arm answers it. Safe. -/
  | notModelled (mnemonic : String)
  /-- The command port holds an opcode of R90 with an operand record that is not the one R90 fixes for it,
  which is no host operation (log 19). Raised by step; no run from reset raises it, since the host offers
  operations only. Safe. -/
  | notAnOperation (opcode : Byte)
deriving DecidableEq, Repr

/-- The machine right after block reset at power-on (R20, R32, R280, R281; the device after its own
power-on reset, R70). -/
def State.reset : State where
  cfg := Config.defaults
  seqState := .idle
  op := none
  step := 0
  attempt := 0
  initialized := false
  curMode := .unknown
  filtersLocked := false
  faultCode := 0x00
  result := .none
  rxFifo := []
  scratch := Scratch.unwritten
  urx := Urx.reset
  uartTx := []
  dev := { law := .any, regs := [], epoch := 0, modeReqs := [] }
  env := Env.empty
  history := [.reset]
  link := none

end Sys2Proof.Machine
end

