-- ==== Sys2Proof/Machine/Memory.lean ====
section
/-! DEFINITION. The device register space (spec/20_memory.md rules R50, R65 to R68, R70, R74): what stands
at each address, what an unlisted address reads as, and the operations over the canonical list of cells. -/

namespace Sys2Proof.Machine

/-- The kinds of registers of R65 and R66 that differ in layout, access or reset value. -/
inductive RegKind where
  | canstat | canctrl | bfpctrl | txrtsctrl | tecCtr | recCtr
  | cnf3 | cnf2 | cnf1 | caninte | canintf | eflg
  | txbCtrl | txbSidl | txbDlc | txbByte
  | rxb0Ctrl | rxb1Ctrl | rxbSidl | rxbDlc | rxbByte
  | filtSidl | filtByte | maskSidl | maskByte
deriving DecidableEq, Repr

/-- The mirrors of R67: 0xNE and 0xNF reach CANSTAT and CANCTRL. -/
def canonAddr (a : Nat) : Nat :=
  if a % 16 = Config.dev.canstat.toNat % 16 then Config.dev.canstat.toNat
  else if a % 16 = Config.dev.canctrl.toNat % 16 then Config.dev.canctrl.toNat
  else a

/-- The registers that stand alone in R65's map. -/
def namedRegs : List (Nat × RegKind) :=
  [(Config.dev.canstat.toNat, .canstat), (Config.dev.canctrl.toNat, .canctrl),
   (Config.dev.bfpctrl.toNat, .bfpctrl), (Config.dev.txrtsctrl.toNat, .txrtsctrl),
   (Config.dev.tecReg.toNat, .tecCtr), (Config.dev.recReg.toNat, .recCtr),
   (Config.dev.cnf3.toNat, .cnf3), (Config.dev.cnf2.toNat, .cnf2), (Config.dev.cnf1.toNat, .cnf1),
   (Config.dev.caninte.toNat, .caninte), (Config.dev.canintf.toNat, .canintf),
   (Config.dev.eflg.toNat, .eflg)]

/-- The kind of the register at an offset of a buffer (R68): its CTRL, its SIDL, its DLC, or a byte of an
identifier or of the data. -/
def bufferReg (ctrl sidl dlc byte : RegKind) (off : Nat) : RegKind :=
  if off = 0 then ctrl
  else if off = Config.dev.sidlOffset.toNat then sidl
  else if off = Config.dev.dlcOffset.toNat then dlc
  else byte

/-- The kind of the register at an offset of a filter or mask (R74). -/
def imageReg (sidl byte : RegKind) (off : Nat) : RegKind := if off = 1 then sidl else byte

/-- `n` registers upward from a base. -/
def regsFrom (base n : Nat) (kind : Nat → RegKind) : List (Nat × RegKind) :=
  (List.range n).map fun off => (base + off, kind off)

/-- R65's map but for the mirrors: every address and its register, from the addresses of `DEV`. -/
def regMap : List (Nat × RegKind) :=
  namedRegs ++
    (Config.dev.txb.toList.flatMap fun b =>
      regsFrom b.toNat 14 (bufferReg .txbCtrl .txbSidl .txbDlc .txbByte)) ++
    ((Config.dev.rxb.toList.zip [RegKind.rxb0Ctrl, .rxb1Ctrl]).flatMap fun e =>
      regsFrom e.1.toNat 14 (bufferReg e.2 .rxbSidl .rxbDlc .rxbByte)) ++
    (Config.dev.rxf.toList.flatMap fun b => regsFrom b.toNat 4 (imageReg .filtSidl .filtByte)) ++
    (Config.dev.rxm.toList.flatMap fun b => regsFrom b.toNat 4 (imageReg .maskSidl .maskByte))

/-- The register at an address, mirrors included (R65, R67); none above 0x7F. -/
def regKind (a : Nat) : Option RegKind :=
  if a > 0x7F then none else (regMap.find? fun e => e.1 == canonAddr a).map (·.2)

/-! ### The layouts of R66 -/

/-- Who may change a field by an SPI write: RW, R, RC (cleared by writing 0), and "RW in config mode" (R66). -/
inductive Access where
  | rw
  | r
  | rc
  | rwConfig
deriving DecidableEq, Repr

/-- A field of a device register: its lowest bit, its width, its access (R66). -/
structure Field where
  low : Nat
  width : Nat
  access : Access
deriving DecidableEq, Repr

/-- The byte whose set bits are `width` bits from `low`. -/
def fieldMask (low width : Nat) : Byte := BitVec.ofNat 8 ((2 ^ width - 1) * 2 ^ low)

/-- The bits of a list of fields. -/
def fieldsMask (fs : List Field) : Byte := fs.foldl (fun m f => m ||| fieldMask f.low f.width) 0x00

/-- One-bit fields of one access, one for each buffer. -/
def bitFields {n : Nat} (access : Access) (lows : Vector Nat n) : List Field :=
  lows.toList.map fun low => ⟨low, 1, access⟩

/-- SID2 to SID0, EID17 and EID16 in a SIDL (R66). -/
def sidlFields (access : Access) : List Field :=
  [⟨Config.dev.sidlSid, 3, access⟩, ⟨Config.dev.sidlEid, 2, access⟩]

/-- The fields of each register (R66's table); its other bits are unimplemented. -/
def regFields : RegKind → List Field
  | .canctrl =>
    [⟨Config.dev.reqop, 3, .rw⟩, ⟨Config.dev.abat, 1, .rw⟩, ⟨Config.dev.osm, 1, .rw⟩,
     ⟨Config.dev.clken, 1, .rw⟩, ⟨Config.dev.clkpre, 2, .rw⟩]
  | .canstat => [⟨Config.dev.opmod, 3, .r⟩, ⟨Config.dev.icod, 3, .r⟩]
  | .cnf1 => [⟨Config.dev.sjw, 2, .rw⟩, ⟨Config.dev.brp, 6, .rw⟩]
  | .cnf2 =>
    [⟨Config.dev.btlmode, 1, .rw⟩, ⟨Config.dev.sam, 1, .rw⟩, ⟨Config.dev.phseg1, 3, .rw⟩,
     ⟨Config.dev.prseg, 3, .rw⟩]
  | .cnf3 => [⟨Config.dev.sof, 1, .rw⟩, ⟨Config.dev.wakfil, 1, .rw⟩, ⟨Config.dev.phseg2, 3, .rw⟩]
  | .caninte =>
    [⟨Config.dev.merre, 1, .rw⟩, ⟨Config.dev.wakie, 1, .rw⟩, ⟨Config.dev.errie, 1, .rw⟩] ++
      bitFields .rw Config.dev.txie ++ bitFields .rw Config.dev.rxie
  | .canintf =>
    [⟨Config.dev.merrf, 1, .rw⟩, ⟨Config.dev.wakif, 1, .rw⟩, ⟨Config.dev.errif, 1, .rw⟩] ++
      bitFields .rw Config.dev.txif ++ bitFields .rw Config.dev.rxif
  | .eflg =>
    bitFields .rc Config.dev.rxovr ++
      [⟨Config.dev.txbo, 1, .r⟩, ⟨Config.dev.txep, 1, .r⟩, ⟨Config.dev.rxep, 1, .r⟩,
       ⟨Config.dev.txwar, 1, .r⟩, ⟨Config.dev.rxwar, 1, .r⟩, ⟨Config.dev.ewarn, 1, .r⟩]
  | .txbCtrl =>
    [⟨Config.dev.abtf, 1, .r⟩, ⟨Config.dev.mloa, 1, .r⟩, ⟨Config.dev.txerr, 1, .r⟩,
     ⟨Config.dev.txreq, 1, .rw⟩, ⟨Config.dev.txp, 2, .rw⟩]
  | .txbSidl => ⟨Config.dev.sidlExt, 1, .rw⟩ :: sidlFields .rw
  | .txbDlc => [⟨Config.dev.dlcRtr, 1, .rw⟩, ⟨Config.dev.dlcLen, 4, .rw⟩]
  | .txbByte => [⟨0, 8, .rw⟩]
  | .rxb0Ctrl =>
    [⟨Config.dev.rxmMode, 2, .rw⟩, ⟨Config.dev.rxrtr, 1, .r⟩, ⟨Config.dev.bukt, 1, .rw⟩,
     ⟨Config.dev.bukt1, 1, .r⟩, ⟨Config.dev.filhit, 1, .r⟩]
  | .rxb1Ctrl =>
    [⟨Config.dev.rxmMode, 2, .rw⟩, ⟨Config.dev.rxrtr, 1, .r⟩, ⟨Config.dev.filhit, 3, .r⟩]
  | .rxbSidl => ⟨Config.dev.sidlSrr, 1, .r⟩ :: ⟨Config.dev.sidlExt, 1, .r⟩ :: sidlFields .r
  | .rxbDlc => [⟨Config.dev.dlcRtr, 1, .r⟩, ⟨Config.dev.dlcRb, 2, .r⟩, ⟨Config.dev.dlcLen, 4, .r⟩]
  | .rxbByte => [⟨0, 8, .r⟩]
  | .filtSidl => ⟨Config.dev.sidlExt, 1, .rwConfig⟩ :: sidlFields .rwConfig
  | .filtByte => [⟨0, 8, .rwConfig⟩]
  | .maskSidl => sidlFields .rwConfig
  | .maskByte => [⟨0, 8, .rwConfig⟩]
  | .bfpctrl =>
    bitFields .rw Config.dev.bfs ++ bitFields .rw Config.dev.bfe ++ bitFields .rw Config.dev.bfm
  | .txrtsctrl => bitFields .r Config.dev.rtsPin ++ bitFields .rw Config.dev.rtsMode
  | .tecCtr => [⟨0, 8, .r⟩]
  | .recCtr => [⟨0, 8, .r⟩]

/-- A write stores the field as written. -/
def Field.stores (f : Field) : Bool := f.access == .rw || f.access == .rwConfig

/-- The bits R66 implements; the others read as 0, whatever was written to them. -/
def implMask (k : RegKind) : Byte := fieldsMask (regFields k)

/-- The bits an SPI write stores as written (R66, last column): the whole byte of an RW register, the RW fields
of the others. -/
def writeMask (k : RegKind) : Byte :=
  if (regFields k).all Field.stores then 0xFF else fieldsMask ((regFields k).filter Field.stores)

/-- The bits that writing 0 clears and nothing sets (R66: RC). -/
def clearMask (k : RegKind) : Byte := fieldsMask ((regFields k).filter fun f => f.access == .rc)

/-- The registers that take writes only in configuration mode (R66, R74). -/
def configOnly (k : RegKind) : Bool := (regFields k).all fun f => f.access == .rwConfig

/-- The registers that support BIT MODIFY (R63). -/
def bitModifiable : RegKind → Bool
  | .bfpctrl | .txrtsctrl | .canctrl | .cnf1 | .cnf2 | .cnf3 | .caninte | .canintf | .eflg
  | .txbCtrl | .rxb0Ctrl | .rxb1Ctrl => true
  | _ => false

/-- The reset value R70 gives a register; none for the buffer bytes, the filters and the masks. -/
def resetOf : RegKind → Option Byte
  | .canctrl => some 0x87
  | .canstat => some 0x80
  | .cnf1 | .cnf2 | .cnf3 | .caninte | .canintf | .eflg | .tecCtr | .recCtr
  | .txbCtrl | .rxb0Ctrl | .rxb1Ctrl | .bfpctrl | .txrtsctrl => some 0x00
  | _ => none

/-- What an unlisted address reads as: its reset value, or no value where R70 gives none (the read is then
a draw, `Device.contents`). Log 12. -/
def resetContents (a : Nat) : Option Byte := (regKind a).bind resetOf

/-- The byte listed at an address. -/
def Memory.lookup : List Host.Cell → Nat → Option Byte
  | [], _ => none
  | (k, b) :: m, a => if k = a then some b else Memory.lookup m a

/-- The memory without an entry at an address. -/
def Memory.erase (m : List Host.Cell) (a : Nat) : List Host.Cell := m.filter fun c => c.1 ≠ a

/-- The memory with the entry `(a, b)`, addresses kept rising. -/
def Memory.insert : List Host.Cell → Nat → Byte → List Host.Cell
  | [], a, b => [(a, b)]
  | (k, v) :: m, a, b =>
    if a < k then (a, b) :: (k, v) :: m
    else if a = k then (a, b) :: m
    else (k, v) :: Memory.insert m a b

/-- What an address holds: the listed byte, or what an unlisted address reads as. -/
def Memory.read (m : List Host.Cell) (a : Nat) : Option Byte :=
  match Memory.lookup m a with
  | some b => some b
  | none => resetContents a

/-- Writing a byte; writing what an unlisted address reads as removes the entry. -/
def Memory.write (m : List Host.Cell) (a : Nat) (b : Byte) : List Host.Cell :=
  if resetContents a = some b then Memory.erase m a else Memory.insert m a b

/-- The canonical form: addresses strictly rising, no entry equal to what an unlisted address reads as. -/
def Memory.wf (m : List Host.Cell) : Bool :=
  decide (m.Pairwise fun c d => c.1 < d.1) && m.all fun c => decide (resetContents c.1 ≠ some c.2)

end Sys2Proof.Machine
end

