-- ==== Sys2Proof/Machine/Codec.lean ====
section
/-! DEFINITION. IDC, the CAN identifier, DLC and frame codec: the combinational functions of
spec/43_id_codec.md rules R190 to R198 over the layouts of spec/30_encoding.md rules R97 to R99. -/

namespace Sys2Proof.Machine

/-- `EncId` on an identifier that fits (R97, R190). -/
def encIdImage (id : Id) (ext : Bool) : IdImage :=
  if ext then
    { sidh := id.extractLsb' 21 8
      sidl :=
        fieldAt Config.dev.sidlSid (id.extractLsb' 18 3) ||| bitIf true Config.dev.sidlExt |||
          fieldAt Config.dev.sidlEid (id.extractLsb' 16 2)
      eid8 := id.extractLsb' 8 8
      eid0 := id.extractLsb' 0 8 }
  else
    { sidh := id.extractLsb' 3 8
      sidl := fieldAt Config.dev.sidlSid (id.extractLsb' 0 3)
      eid8 := 0x00
      eid0 := 0x00 }

/-- SID2 to SID0 of an identifier image (R97). -/
def sidlSid (img : IdImage) : BitVec 3 := img.sidl.extractLsb' Config.dev.sidlSid 3

/-- EID17 and EID16 of an identifier image (R97). -/
def sidlEid (img : IdImage) : BitVec 2 := img.sidl.extractLsb' Config.dev.sidlEid 2

/-- The four bytes of an identifier image, SIDH first (R97). -/
def idBytes (img : IdImage) : List Byte := [img.sidh, img.sidl, img.eid8, img.eid0]

/-- The extended-identifier flag, SIDL bit 3 (R192). -/
def decExt (img : IdImage) : Bool := img.sidl.getLsbD Config.dev.sidlExt

/-- The identifier of `DecId` (R192). -/
def decIdValue (img : IdImage) : Id :=
  if decExt img then
    img.sidh ++ sidlSid img ++ sidlEid img ++ img.eid8 ++ img.eid0
  else (img.sidh ++ sidlSid img).setWidth 29

/-- `EncDlc` on a length that fits (R98, R194). -/
def encDlcByte (n : Nat) (rtr : Bool) : Byte :=
  bitIf rtr Config.dev.dlcRtr ||| fieldAt Config.dev.dlcLen (BitVec.ofNat 4 n)

/-- The length of `DecDlc`: 9 to 15 read as 8 (R195). -/
def decDlcLen (b : Byte) : Nat := min (b.extractLsb' Config.dev.dlcLen 4).toNat 8

/-- The remote flag of `DecDlc` (R195). -/
def decDlcRtr (b : Byte) : Bool := b.getLsbD Config.dev.dlcRtr

/-- `EncFrame` on a well-formed frame (R197). -/
def encFrameBytes (f : CanFrame) : List Byte :=
  idBytes (encIdImage f.id f.ext) ++ [encDlcByte f.data.length f.rtr] ++ f.data

/-- The data bytes of a buffer image (R99). -/
def imageData (img : BufferImage) : List Byte :=
  [img.d0, img.d1, img.d2, img.d3, img.d4, img.d5, img.d6, img.d7]

/-- `DecFrame` (R198); `src` is RX_STD_RTR_SOURCE. -/
def decFrameImage (src : RtrSource) (img : BufferImage) : CanFrame :=
  { id := decIdValue img.ident
    ext := decExt img.ident
    rtr :=
      if !decExt img.ident && src = .sidl4 then img.ident.sidl.getLsbD Config.dev.sidlSrr
      else decDlcRtr img.dlc
    data := (imageData img).take (decDlcLen img.dlc) }

/-- The buffer image of 13 bytes (R99); none for another number of bytes. -/
def imageOfBytes : List Byte → Option BufferImage
  | [sidh, sidl, eid8, eid0, dlc, d0, d1, d2, d3, d4, d5, d6, d7] =>
    some ⟨⟨sidh, sidl, eid8, eid0⟩, dlc, d0, d1, d2, d3, d4, d5, d6, d7⟩
  | _ => none

/-- An identifier image is canonical (R193.2). -/
def idCanonical (img : IdImage) : Bool :=
  let fields := fieldMask Config.dev.sidlSid 3 ||| fieldMask Config.dev.sidlExt 1 ||| fieldMask Config.dev.sidlEid 2
  img.sidl &&& ~~~ fields == 0x00 &&
    (decExt img || (sidlEid img == 0b00#2 && img.eid8 == 0x00 && img.eid0 == 0x00))

end Sys2Proof.Machine
end

