-- ==== Sys2Proof/Machine/Operands.lean ====
section
/-! DEFINITION. The operand checks of the host operations, as the pseudocode of their rules writes them
(spec/30_encoding.md rule R102, spec/60_exceptions.md rule R255 step 3), over unbounded integers (R16). -/

namespace Sys2Proof.Machine

/-- REG_READ's and REG_WRITE's one combined condition (R56, R122, R123). -/
def badBurst (addr : Byte) (n : Nat) : Bool :=
  decide (addr.toNat > 0x7F) || decide (n = 0) || decide (n > Config.maxBurst) ||
    decide (addr.toNat + n - 1 > 0x7F)

/-- BIT_MODIFY's address check (R124). -/
def badAddr (addr : Byte) : Bool := decide (addr.toNat > 0x7F)

/-- RTS's check (R127); `t` is a Byte (log 29). -/
def badRts (t : Byte) : Bool := decide (t.toNat = 0) || decide (t.toNat > 7)

/-- LOAD_TX's check (R128); `sel` is a Byte (log 29). -/
def badLoadTx (sel : Byte) (k : Nat) : Bool :=
  decide (sel.toNat > 5) || decide (k = 0) || (!sel.getLsbD 0 && decide (k > 13)) ||
    (sel.getLsbD 0 && decide (k > 8))

/-- READ_RX's check (R129); `sel` is a Byte (log 29). -/
def badReadRx (sel : Byte) (n : Nat) : Bool :=
  decide (sel.toNat > 3) || decide (n = 0) || (!sel.getLsbD 0 && decide (n > 13)) ||
    (sel.getLsbD 0 && decide (n > 8))

/-- An identifier that does not fit its width (R102, R164, R171). -/
def badId (id : Id) (ext : Bool) : Bool :=
  (!ext && decide (id.toNat ≥ 2 ^ Config.stdIdBits)) || decide (id.toNat ≥ 2 ^ Config.extIdBits)

/-- Some spec of a non-empty filter set does not fit (R171). -/
def badFilters : FilterSet → Bool
  | .empty => false
  | .full r => r.specs.any fun x => badId x.value x.ext

/-- A CAN payload of more than 8 bytes (R194, R197, R164). -/
def longCan (n : Nat) : Bool := decide (n > Config.maxCanPayload)

/-- A UART payload of more than 255 bytes (R220). -/
def longUart (n : Nat) : Bool := decide (n > Config.uartMaxPayload)

/-- The detail of PayloadTooLong: `min(length, 255)` (R250). -/
def lengthDetail (n : Nat) : Byte := BitVec.ofNat 8 (min n 255)

/-- The first `BITRATE_TABLE` entry of a pair (R160). -/
def bitrateLookup (table : List BitrateEntry) (bitrate crystal : Nat) : Option BitrateEntry :=
  table.find? fun e => decide (e.bitrate = bitrate) && decide (e.crystal = crystal)

end Sys2Proof.Machine
end

