-- ==== Sys2Proof/Machine/Flags.lean ====
section
/-! DEFINITION. Codes and flags: the 3-bit mode codes (spec/20_memory.md rule R69, spec/10_state.md rule
R20), the error codes and classes (spec/60_exceptions.md rules R250, R251), the STATUS word (R33), and the
bit tests of SEND and BUS_STATE (spec/42_controller_ops.md rules R164, R168). -/

namespace Sys2Proof.Machine

/-- `seq_state`'s 2-bit code (R20). -/
def seqStateCode : SeqState → BitVec 2
  | .idle => 0b00#2
  | .busy => 0b01#2
  | .fault => 0b10#2

/-- `code(m)` (R69), from `DEV`. -/
def modeCode : Mode → BitVec 3
  | .normal => Config.dev.normalCode
  | .loopback => Config.dev.loopbackCode
  | .listenOnly => Config.dev.listenOnlyCode
  | .config => Config.dev.configCode

/-- `cur_mode`'s own 3-bit code (R20). -/
def curModeCode : CurMode → BitVec 3
  | .known .normal => 0b000#3
  | .known .loopback => 0b010#3
  | .known .listenOnly => 0b011#3
  | .known .config => 0b100#3
  | .unknown => 0b111#3

/-- The mode a belief names; none for UNKNOWN. -/
def curModeKnown : CurMode → Option Mode
  | .known m => some m
  | .unknown => none

/-- `code(E)` (R250). -/
def errorCode : ErrorCode → Byte
  | .noBufferAvailable => 0x01
  | .frameCorrupt => 0x02
  | .idOutOfRange => 0x03
  | .payloadTooLong => 0x04
  | .illegalOperand => 0x05
  | .illegalCommand => 0x06
  | .notInitialized => 0x07
  | .filterLocked => 0x08
  | .faulted => 0x09
  | .unsupportedBitrate => 0x10
  | .invalidModeCombination => 0x11
  | .modeChangeTimeout => 0x12
  | .chipInitFailure => 0x13

/-- The fatal class (R250, R251). -/
def errorFatal : ErrorCode → Bool
  | .unsupportedBitrate | .invalidModeCombination | .modeChangeTimeout | .chipInitFailure => true
  | _ => false

/-- The STATUS word (R33): FCODE, a reserved 0, MODE, FLOCK, INIT, FAULT, BUSY. -/
def statusWord (s : State) : StatusWord :=
  s.faultCode ++ 0b0#1 ++ curModeCode s.curMode ++ BitVec.ofBool s.filtersLocked ++
    BitVec.ofBool s.initialized ++ BitVec.ofBool (s.seqState == .fault) ++
    BitVec.ofBool (s.seqState == .busy)

/-- STATUS "sampled before this operation was accepted" (R120): BUSY reads 0. -/
def statusAtAcceptance (s : State) : StatusWord := statusWord { s with seqState := .idle }

/-- The first transmit buffer whose TXREQ bit is clear in a READ STATUS byte (R164, R165). -/
def freeTxBuffer (st : Byte) : Option (Fin Config.nTxBuf) :=
  (List.finRange Config.nTxBuf).find? fun n => !st.getLsbD Config.dev.statusTxreq[n]

/-- The bus state an EFLG byte means (R168). -/
def busStateOf (e : Byte) : BusState :=
  if e.getLsbD Config.dev.txbo then .busOff
  else if e.getLsbD Config.dev.txep || e.getLsbD Config.dev.rxep then .errorPassive
  else if e.getLsbD Config.dev.txwar || e.getLsbD Config.dev.rxwar || e.getLsbD Config.dev.ewarn then
    .errorWarning
  else .errorActive

end Sys2Proof.Machine
end

