-- ==== Sys2Proof/Machine/Device.lean ====
section
/-! DEFINITION. The reference device model of spec/20_memory.md rules R63 and R70 to R73: what it answers to
each SPI instruction, its delayed mode change and its CAN bus side. It is a named premise of a claim (R60):
it acts only where `dev.law` is not `any`. Addresses and field positions are `DEV`'s (spec/00_scope.md rule
R7). -/

namespace Sys2Proof.Machine

/-! ### Addresses -/

/-- The address of CANSTAT (R65). -/
def addrCanstat : Nat := Config.dev.canstat.toNat
/-- The address of CANINTF (R65). -/
def addrCanintf : Nat := Config.dev.canintf.toNat
/-- The address of EFLG (R65). -/
def addrEflg : Nat := Config.dev.eflg.toNat

/-- TXB(n), the base of transmit buffer n (R68). -/
def txbBase (n : Fin Config.nTxBuf) : Nat := Config.dev.txb[n].toNat
/-- RXB(n), the base of receive buffer n (R68). -/
def rxbBase (n : Fin Config.nRxBuf) : Nat := Config.dev.rxb[n].toNat
/-- RXFn, the first address of acceptance filter n (R74). -/
def rxfBase (n : Fin Config.nFilt) : Nat := Config.dev.rxf[n].toNat
/-- RXMn, the first address of acceptance mask n (R74). -/
def rxmBase (n : Fin Config.nMask) : Nat := Config.dev.rxm[n].toNat

/-- Which receive buffer a filter governs: RXF0 and RXF1 RXB0, the others RXB1 (R7, R74). -/
def bufferOfFilter (f : Fin Config.nFilt) : Fin Config.nRxBuf := if f.val < Config.nFiltRxb0 then 0 else 1

/-- Which mask goes with a filter: RXM0 with RXB0's, RXM1 with RXB1's (R74). -/
def maskOfFilter (f : Fin Config.nFilt) : Fin Config.nMask := if bufferOfFilter f = 0 then 0 else 1

/-- The receive buffer a Boolean field selects (R94). -/
def rxBufOf (n : Bool) : Fin Config.nRxBuf := if n then 1 else 0

/-! ### Registers -/

/-- What stands at an address: the memory's byte, or the draw of R70. -/
def Device.contents (d : Device) (a : Nat) : Byte :=
  match Memory.read d.regs (canonAddr a) with
  | some b => b
  | none => Config.devPowerOn d.epoch (canonAddr a)

/-- The bits of an address that exist (R66); none above 0x7F. -/
def implBits (a : Nat) : Byte :=
  match regKind a with
  | some k => implMask k
  | none => 0x00

/-- What a register reads as: its contents, with the unimplemented bits 0 (R66). -/
def Device.read (d : Device) (a : Nat) : Byte := d.contents a &&& implBits a

/-- The device's own store of a register. -/
def Device.store (d : Device) (a : Nat) (b : Byte) : Device :=
  { d with regs := Memory.write d.regs (canonAddr a) b }

/-- One bit of a register. -/
def Device.bit (d : Device) (a i : Nat) : Bool := (d.read a).getLsbD i

/-- The byte whose only set bit is i. -/
def bitMask (i : Nat) : Byte := BitVec.twoPow 8 i

/-- The device sets one bit of a register. -/
def Device.setBit (d : Device) (a i : Nat) : Device := d.store a (d.contents a ||| bitMask i)

/-- The device clears one bit of a register. -/
def Device.clearBit (d : Device) (a i : Nat) : Device := d.store a (d.contents a &&& ~~~ bitMask i)

/-- `old` with the bits of `mask` taken from `new` (R63). -/
def mergeBits (old new mask : Byte) : Byte := (old &&& ~~~ mask) ||| (new &&& mask)

/-- CANSTAT.OPMOD (R66). -/
def Device.opmod (d : Device) : BitVec 3 := (d.read addrCanstat).extractLsb' Config.dev.opmod 3

/-- The device enters the mode of a code (R66): OPMOD alone changes. -/
def Device.setOpmod (d : Device) (code : BitVec 3) : Device :=
  d.store addrCanstat
    (mergeBits (d.contents addrCanstat) (fieldAt Config.dev.opmod code) (fieldMask Config.dev.opmod 3))

/-- CANINTF.RXnIF: receive buffer n is full (R66). -/
def Device.full (d : Device) (n : Fin Config.nRxBuf) : Bool := d.bit addrCanintf Config.dev.rxif[n]

/-! ### Writes -/

/-- What a register holds after an SPI write of a byte: RW fields taken, RC fields cleared by writing 0, read-only
fields kept, filters and masks taken only in configuration mode (R66, R71, R74). -/
def Device.written (d : Device) (k : RegKind) (old new : Byte) : Byte :=
  if configOnly k && d.opmod != Config.dev.configCode then old
  else mergeBits (old &&& (new ||| ~~~ clearMask k)) new (writeMask k)

/-- One byte `b` reaches a register by a write of the bits of `mask` (R63, R71). A write of CANCTRL.REQOP requests a
mode change, beside those that OPMOD has not taken yet (log 14); a mask that leaves REQOP out writes none of it. -/
def Device.writeMasked (d : Device) (a : Nat) (mask b : Byte) : Device :=
  match regKind a with
  | none => d
  | some k =>
    let d' := d.store a (d.written k (d.contents a) b)
    if k = .canctrl ∧ mask &&& fieldMask Config.dev.reqop 3 ≠ 0x00 then
      { d' with modeReqs := d.modeReqs ++ [b.extractLsb' Config.dev.reqop 3] }
    else d'

/-- One byte of a WRITE (R71). -/
def Device.writeByte (d : Device) (a : Nat) (b : Byte) : Device := d.writeMasked a 0xFF b

/-- A burst write, upward from an address, of what lies in the register space (R56, R71). -/
def Device.writeBurst (d : Device) (a : Nat) : List Byte → Device
  | [] => d
  | b :: bs => (d.writeByte a b).writeBurst (a + 1) bs

/-- A burst read, upward from an address (R56, R71). -/
def Device.readBurst (d : Device) (a : Nat) : Nat → List Byte
  | 0 => []
  | n + 1 => d.read a :: d.readBurst (a + 1) n

/-- What a burst read brings in: the registers in the register space, and past 0x7F the drawn bytes (93 U4;
log 17). -/
def Device.answerBurst (d : Device) (a : Nat) : List Byte → List Byte
  | [] => []
  | b :: bs => (if a ≤ 0x7F then d.read a else b) :: d.answerBurst (a + 1) bs

/-- The addresses that are no mirror (R67). -/
def canonAddrs : List Nat := (List.range 0x80).filter fun a => canonAddr a = a

/-- A register file of draws: every register holds what `epoch`'s draws give it. -/
def drawnRegs (epoch : Nat) (addrs : List Nat) : List Host.Cell :=
  addrs.foldl (fun m a => Memory.write m a (Config.devPowerOn epoch a)) []

/-- The device after what the spec leaves open (93 U1, U4: "any value"): every register is a new draw, and a
mode may have been requested. Log 17. -/
def Device.havoc (d : Device) : Device :=
  { d with
    regs := drawnRegs (d.epoch + 1) canonAddrs
    epoch := d.epoch + 1
    modeReqs := d.modeReqs ++ [(Config.devPowerOn (d.epoch + 1) 0x80).extractLsb' Config.dev.reqop 3] }

/-- WRITE, and LOAD TX BUFFER from its start (R71): what lies past 0x7F may land anywhere (93 U4; log 17). -/
def Device.writeFrame (d : Device) (a : Nat) (data : List Byte) : Device :=
  if data = [] ∨ a + data.length ≤ 0x80 then d.writeBurst a data else d.havoc

/-- BIT MODIFY (R63): a plain write where the register does not support it; past 0x7F, anything (log 17). -/
def Device.bitModify (d : Device) (a : Nat) (mask data : Byte) : Device :=
  match regKind a with
  | none => d.havoc
  | some k =>
    let m := if bitModifiable k then mask else 0xFF
    d.writeMasked a m (mergeBits (d.contents a) data m)

/-- The device's reset (R70): the registers' reset values, new draws for the unspecified ones; and no request
of before the reset is taken after it (log 14). -/
def Device.reset (d : Device) : Device :=
  { d with regs := [], epoch := d.epoch + 1, modeReqs := [] }

/-- TXREQ of one buffer, where its bit of the RTS instruction asks for it. -/
def Device.requestIf (d : Device) (asked : Bool) (n : Fin Config.nTxBuf) : Device :=
  if asked then d.setBit (txbBase n) Config.dev.txreq else d

/-- RTS: bit k of `t` sets TXBkCTRL.TXREQ (R71, R95). -/
def Device.requestToSend (d : Device) (t : BitVec 3) : Device :=
  ((d.requestIf (t.getLsbD 0) 0).requestIf (t.getLsbD 1) 1).requestIf (t.getLsbD 2) 2

/-! ### The two status bytes -/

/-- The READ STATUS byte (R72). -/
def Device.statusByte (d : Device) : Byte :=
  bitIf (d.full 0) Config.dev.statusRxif[0] ||| bitIf (d.full 1) Config.dev.statusRxif[1] |||
    bitIf (d.bit (txbBase 0) Config.dev.txreq) Config.dev.statusTxreq[0] |||
    bitIf (d.bit addrCanintf Config.dev.txif[0]) Config.dev.statusTxif[0] |||
    bitIf (d.bit (txbBase 1) Config.dev.txreq) Config.dev.statusTxreq[1] |||
    bitIf (d.bit addrCanintf Config.dev.txif[1]) Config.dev.statusTxif[1] |||
    bitIf (d.bit (txbBase 2) Config.dev.txreq) Config.dev.statusTxreq[2] |||
    bitIf (d.bit addrCanintf Config.dev.txif[2]) Config.dev.statusTxif[2]

/-- The address of a buffer's SIDL. -/
def sidlOf (base : Nat) : Nat := base + Config.dev.sidlOffset.toNat
/-- The address of a buffer's DLC. -/
def dlcOf (base : Nat) : Nat := base + Config.dev.dlcOffset.toNat

/-- The frame in receive buffer n is extended: IDE (R66). -/
def Device.rxExtended (d : Device) (n : Fin Config.nRxBuf) : Bool :=
  d.bit (sidlOf (rxbBase n)) Config.dev.sidlExt

/-- The remote flag of the frame in receive buffer n: RTR of the DLC for an extended frame, SRR for a standard
one (R66; spec/43_id_codec.md rule R198, device side). -/
def Device.rxRemote (d : Device) (n : Fin Config.nRxBuf) : Bool :=
  if d.rxExtended n then d.bit (dlcOf (rxbBase n)) Config.dev.dlcRtr
  else d.bit (sidlOf (rxbBase n)) Config.dev.sidlSrr

/-- RXBnCTRL.FILHIT, one bit of RXB0CTRL and three of RXB1CTRL (R66). -/
def Device.filterHit (d : Device) (n : Fin Config.nRxBuf) : BitVec 3 :=
  if n = 0 then ((d.read (rxbBase 0)).extractLsb' Config.dev.filhit 1).setWidth 3
  else (d.read (rxbBase 1)).extractLsb' Config.dev.filhit 3

/-- The filter field of the RX STATUS byte for the frame in receive buffer n (spec/41_spi_access.md rule
R126): a frame in RXB1 that matched a filter of RXB0 came by rollover. A hit that names no filter, which the device
never stores, shows as it is. Log 15. -/
def Device.rxFilterField (d : Device) (n : Fin Config.nRxBuf) : BitVec 3 :=
  let hit := d.filterHit n
  let code := Config.dev.rxStatusFilterCode[hit.toNat]?.getD hit
  if n = 0 then code else Config.dev.rxStatusRollover[hit.toNat]?.getD code

/-- The two "message in RXBn" bits of the RX STATUS byte (R126). -/
def Device.rxStatusFlags (d : Device) : Byte :=
  bitIf (d.full 0) Config.dev.rxStatusRxif[0] ||| bitIf (d.full 1) Config.dev.rxStatusRxif[1]

/-- The type and filter bits of the RX STATUS byte for the frame in receive buffer n (R126). -/
def Device.rxStatusFrame (d : Device) (n : Fin Config.nRxBuf) : Byte :=
  bitIf (d.rxExtended n) Config.dev.rxStatusExt ||| bitIf (d.rxRemote n) Config.dev.rxStatusRtr |||
    fieldAt Config.dev.rxStatusFilter (d.rxFilterField n)

/-- Where the two "message in RXBn" bits stand (R126). -/
def rxStatusFlagBits : Byte := bitMask Config.dev.rxStatusRxif[0] ||| bitMask Config.dev.rxStatusRxif[1]

/-- Where the type and filter bits stand (R126). -/
def rxStatusFrameBits : Byte :=
  bitMask Config.dev.rxStatusExt ||| bitMask Config.dev.rxStatusRtr ||| fieldMask Config.dev.rxStatusFilter 3

/-- The RX STATUS byte (R126). The bits R126 does not determine are those of the drawn byte: bit 5, and
bits 4:0 where no message or two messages wait. Log 15. -/
def Device.rxStatusByte (d : Device) (drawn : Byte) : Byte :=
  let flagged := mergeBits drawn d.rxStatusFlags rxStatusFlagBits
  if d.full 0 = d.full 1 then flagged
  else mergeBits flagged (d.rxStatusFrame (if d.full 0 then 0 else 1)) rxStatusFrameBits

/-! ### Answering a transaction -/

/-- Where a buffer instruction starts: the SIDH of the buffer at `base`, or its D0 (R93, R94). -/
def bufferStart (base : Nat) (fromData : Bool) : Nat :=
  base + if fromData then Config.dev.dataOffset.toNat else Config.dev.sidhOffset.toNat

/-- The transmit buffer `abc >> 1` selects (R93); the reserved values are rejected before. -/
def loadTxBuf (abc : BitVec 3) : Fin Config.nTxBuf :=
  if abc.toNat / 2 = 0 then 0 else if abc.toNat / 2 = 1 then 1 else 2

/-- Where LOAD TX BUFFER starts (R93). -/
def loadTxStart (abc : BitVec 3) : Nat := bufferStart (txbBase (loadTxBuf abc)) (abc.getLsbD 0)

/-- Where READ RX BUFFER starts (R94). -/
def readRxStart (n m : Bool) : Nat := bufferStart (rxbBase (rxBufOf n)) m

/-- How the device takes a frame: the bytes sent while it answers are none of the instruction's fields
(R92), whatever they are, nor are further clocks of a status instruction (R125; for RX STATUS, log 15). -/
def deviceView (frame : List Byte) : List Byte :=
  match frame with
  | [] => []
  | b :: rest =>
    match SpiOp.ofByte b, rest with
    | some .read, a :: ds => b :: a :: dummies ds.length
    | some .readRx, ds => b :: dummies ds.length
    | some .readStatus, _ => b :: dummies 1
    | some .rxStatus, _ => b :: dummies 1
    | _, _ => frame

/-- The drawn bytes after an instruction byte with the first of them replaced. -/
def replaceFirst (f : Byte → Byte) : List Byte → List Byte
  | [] => []
  | b :: bs => f b :: bs

/-- The reference device's answer to one transaction and its next state (R71). `raw` is one drawn byte per
byte of the transaction; the bytes the device determines replace the draws. The whole transaction is answered
from one moment (log 28). -/
def Device.answer (d : Device) (tx raw : List Byte) : List Byte × Device :=
  match decodeSpi (deviceView tx) with
  | .ok .spiInstrReset => (raw, d.reset)
  | .ok (.spiRead addr _) => (raw.take 2 ++ d.answerBurst addr.toNat (raw.drop 2), d)
  | .ok (.spiReadRxBuffer n m _) =>
    (raw.take 1 ++ d.answerBurst (readRxStart n m) (raw.drop 1),
      d.clearBit addrCanintf Config.dev.rxif[rxBufOf n])
  | .ok (.spiWrite addr data) => (raw, d.writeFrame addr.toNat data)
  | .ok (.spiLoadTxBuffer abc data) => (raw, d.writeFrame (loadTxStart abc) data)
  | .ok (.spiRts t) => (raw, d.requestToSend t)
  | .ok .spiReadStatus => (raw.take 1 ++ List.replicate (raw.length - 1) d.statusByte, d)
  | .ok .spiRxStatus => (raw.take 1 ++ replaceFirst d.rxStatusByte (raw.drop 1), d)
  | .ok (.spiBitModify addr mask data) => (raw, d.bitModify addr.toNat mask data)
  | _ => (raw, d.havoc)

/-! ### The mode change -/

/-- The modes the block may request (R69, R103); for the others CANSTAT is a draw (93 U2). -/
def knownModeCode (m : BitVec 3) : Bool :=
  m == Config.dev.normalCode || m == Config.dev.loopbackCode || m == Config.dev.listenOnlyCode ||
    m == Config.dev.configCode

/-- OPMOD takes the requested mode `m`, or the drawn value where the request is open (R71, 93 U2). -/
def Device.enterMode (d : Device) (m : BitVec 3) (drawn : Byte) : Device :=
  d.setOpmod (if knownModeCode m then m else drawn.extractLsb' Config.dev.opmod 3)

/-- OPMOD takes the k-th request (R71: "after any number of transactions"). An open request stays, so that a
later read of CANSTAT may be another draw (93 U2). That OPMOD changes by nothing but a taken request and a reset,
though the device may leave a mode on its own (spec/42_controller_ops.md rule R163), is the model's choice
(log 14). -/
def Device.takeMode (d : Device) (k : Nat) (drawn : Byte) : Device :=
  match d.modeReqs[k]? with
  | none => d
  | some m =>
    { d.enterMode m drawn with
      modeReqs := if knownModeCode m then d.modeReqs.eraseIdx k else d.modeReqs }

/-- The simulator's mode change (R71: "before the next transaction"): OPMOD takes the requests in order, so
that it ends at the last. Log 14. -/
def Device.takeLastMode (d : Device) (drawn : Byte) : Device :=
  match d.modeReqs.getLast? with
  | none => d
  | some m => { d.enterMode m drawn with modeReqs := if knownModeCode m then [] else [m] }

/-! ### The CAN bus side (R73, R74) -/

/-- SID2 to SID0 in a SIDL (R66). -/
def sidMask : Byte := fieldMask Config.dev.sidlSid 3
/-- EID17 and EID16 in a SIDL (R66). -/
def eidMask : Byte := fieldMask Config.dev.sidlEid 2

/-- An identifier image agrees with a filter wherever the mask has a 1 (R74); a standard frame has only the
11 bits of SIDH and SIDL[7:5] to compare. The filter's EXIDE bit is not compared with the frame's IDE: the
model's choice (log 16). -/
def Device.matchesFilter (d : Device) (f : Fin Config.nFilt) (img : IdImage) : Bool :=
  let differ (a : Nat) (b care : Byte) : Bool :=
    ((b ^^^ d.read (rxfBase f + a)) &&& d.read (rxmBase (maskOfFilter f) + a) &&& care) != 0x00
  if img.sidl.getLsbD Config.dev.sidlExt then
    !(differ 0 img.sidh 0xFF || differ 1 img.sidl (sidMask ||| eidMask) || differ 2 img.eid8 0xFF ||
      differ 3 img.eid0 0xFF)
  else !(differ 0 img.sidh 0xFF || differ 1 img.sidl sidMask)

/-- RXBnCTRL.RXM (R66). -/
def Device.rxMode (d : Device) (n : Fin Config.nRxBuf) : BitVec 2 :=
  (d.read (rxbBase n)).extractLsb' Config.dev.rxmMode 2

/-- The device accepts a frame by a filter: it matches; or where the buffer's RXM bits ask for a receive mode
the spec does not describe, the input names that filter. Log 16. -/
def Device.accepts (d : Device) (named f : Fin Config.nFilt) (img : IdImage) : Bool :=
  if d.rxMode (bufferOfFilter f) = 0 then d.matchesFilter f img else decide (f = named)

/-- The filter by which a frame is accepted for receive buffer n, if any; of several, the named one or else
the first. Log 16. -/
def Device.hit (d : Device) (n : Fin Config.nRxBuf) (named : Fin Config.nFilt) (img : IdImage) :
    Option (Fin Config.nFilt) :=
  let hits := (List.finRange Config.nFilt).filter fun f => bufferOfFilter f == n && d.accepts named f img
  if named ∈ hits then some named else hits.head?

/-- The bytes of a buffer image, in register order (R99). -/
def imageBytes (img : BufferImage) : List Byte :=
  [img.ident.sidh, img.ident.sidl, img.ident.eid8, img.ident.eid0, img.dlc,
   img.d0, img.d1, img.d2, img.d3, img.d4, img.d5, img.d6, img.d7]

/-- The device stores bytes upward from an address. -/
def Device.storeBurst (d : Device) (a : Nat) : List Byte → Device
  | [] => d
  | b :: bs => (d.store a b).storeBurst (a + 1) bs

/-- A frame enters receive buffer n: the image, the filter that hit (RXBnCTRL.FILHIT) and RXnIF (R66, R73). That
RXRTR and BUKT1 stay is the model's choice (log 16). -/
def Device.fill (d : Device) (n : Fin Config.nRxBuf) (f : Fin Config.nFilt) (img : BufferImage) : Device :=
  let hitWidth := if n = 0 then 1 else 3
  let d1 := d.storeBurst (bufferStart (rxbBase n) false) (imageBytes img)
  let ctrl := mergeBits (d1.contents (rxbBase n)) (fieldAt Config.dev.filhit (BitVec.ofNat 8 f.val))
    (fieldMask Config.dev.filhit hitWidth)
  (d1.store (rxbBase n) ctrl).setBit addrCanintf Config.dev.rxif[n]

/-- A frame is lost: EFLG.RXnOVR (R73). -/
def Device.overflow (d : Device) (n : Fin Config.nRxBuf) : Device := d.setBit addrEflg Config.dev.rxovr[n]

/-- RXB0CTRL.BUKT: rollover from RXB0 to RXB1 is on (R66). -/
def Device.rollover (d : Device) : Bool := d.bit (rxbBase 0) Config.dev.bukt

/-- A frame for RXB1 by its own filter (R73). -/
def Device.intoRxb1 (d : Device) (f : Fin Config.nFilt) (img : BufferImage) : Device :=
  if d.full 1 then d.overflow 1 else d.fill 1 f img

/-- A frame reaches the device (R73). One that RXF0 or RXF1 accepts is for RXB0, so that with rollover on it
goes to RXB1 only while RXB0 is full (spec/70_reset_and_hazards.md rule R287); one that only RXB1's filters
accept goes there. What the rules leave open, `named` and `other` decide (log 16). -/
def Device.receive (d : Device) (named : Fin Config.nFilt) (img : BufferImage) (other : Bool) : Device :=
  match d.hit 0 named img.ident, d.hit 1 named img.ident with
  | none, none => d
  | none, some g => d.intoRxb1 g img
  | some f, byRxb1 =>
    if !d.full 0 then d.fill 0 f img
    else if d.rollover then
      if d.full 1 then d.overflow (if other then 1 else 0) else d.fill 1 f img
    else
      match byRxb1, other with
      | some g, true => d.intoRxb1 g img
      | _, _ => d.overflow 0

/-- The device transmits: not in listen-only or configuration mode, and not in bus-off, where the buffers stay
pending (spec/42_controller_ops.md rule R164, spec/70_reset_and_hazards.md rule R289). -/
def Device.transmits (d : Device) : Bool :=
  d.opmod != Config.dev.listenOnlyCode && d.opmod != Config.dev.configCode &&
    !d.bit addrEflg Config.dev.txbo

/-- The byte k of transmit buffer n's image (R68). -/
def Device.txByte (d : Device) (n : Fin Config.nTxBuf) (k : Nat) : Byte :=
  d.read (bufferStart (txbBase n) false + k)

/-- The frame in transmit buffer n as the device receives it itself: identifier, IDE, remote flag (SRR of a
standard frame, RTR of an extended one, R198), length and data are the transmitted frame's; every other
bit, which no rule gives, is `img`'s (log 16). -/
def Device.ownFrame (d : Device) (n : Fin Config.nTxBuf) (img : BufferImage) : BufferImage :=
  let sidl := d.txByte n 1
  let dlc := d.txByte n 4
  let ext := sidl.getLsbD Config.dev.sidlExt
  let rtr := dlc.getLsbD Config.dev.dlcRtr
  let extBit := fieldMask Config.dev.sidlExt 1
  let srrBit := fieldMask Config.dev.sidlSrr 1
  let rtrBit := fieldMask Config.dev.dlcRtr 1
  let lenBits := fieldMask Config.dev.dlcLen 4
  let len := if rtr then 0 else min (dlc.extractLsb' Config.dev.dlcLen 4).toNat 8
  let datum (k : Nat) (unstated : Byte) : Byte :=
    if k < len then d.txByte n (5 + k) else unstated
  { ident :=
      { sidh := d.txByte n 0
        sidl :=
          if ext then mergeBits img.ident.sidl sidl (sidMask ||| extBit ||| eidMask)
          else
            mergeBits img.ident.sidl (mergeBits sidl (bitIf rtr Config.dev.sidlSrr) srrBit)
              (sidMask ||| extBit ||| srrBit)
        eid8 := if ext then d.txByte n 2 else img.ident.eid8
        eid0 := if ext then d.txByte n 3 else img.ident.eid0 }
    dlc := mergeBits img.dlc dlc (if ext then rtrBit ||| lenBits else lenBits)
    d0 := datum 0 img.d0
    d1 := datum 1 img.d1
    d2 := datum 2 img.d2
    d3 := datum 3 img.d3
    d4 := datum 4 img.d4
    d5 := datum 5 img.d5
    d6 := datum 6 img.d6
    d7 := datum 7 img.d7 }

/-- A requested transmission completes, where the device transmits: TXREQ is cleared and TXnIF set (R73); in
loopback mode the device receives the frame itself (R289). The model's choice, as R66 names these bits and no rule
gives them an effect (log 16): no step of the reference device moves TXBnCTRL.ABTF, MLOA or TXERR, CANSTAT.ICOD or
TXRTSCTRL.BnRTS; CANCTRL.ABAT stops no transmission; CANCTRL.OSM ends no request, as no transmission attempt fails;
TXRTSCTRL.BnRTSM lets no pin set TXREQ, which RTS and writes alone do; and TXBnCTRL.TXP and CNF1 to CNF3 decide
neither whether nor in which order transmissions complete. -/
def Device.txDone (d : Device) (n : Fin Config.nTxBuf) (named : Fin Config.nFilt) (img : BufferImage)
    (other : Bool) : Device :=
  if d.bit (txbBase n) Config.dev.txreq && d.transmits then
    let d1 := (d.clearBit (txbBase n) Config.dev.txreq).setBit addrCanintf Config.dev.txif[n]
    if d.opmod = Config.dev.loopbackCode then d1.receive named (d.ownFrame n img) other else d1
  else d

end Sys2Proof.Machine
end

