-- ==== Sys2Proof/Machine/Ops.lean ====
section
/-! DEFINITION. The named operations every meaning is built from: draws, events, the SPI and UART
primitives (spec/00_scope.md rules R10, R12), accepting and completing an operation (spec/10_state.md rules
R22, R23), raising an error as one shared operation (spec/60_exceptions.md rules R251 to R254), and block
reset (spec/70_reset_and_hazards.md rule R280), the only way out of FAULT. -/

namespace Sys2Proof.Machine

/-! ### Draws -/

/-- One byte the device agent chooses (R60): the environment's next one, else a free value. -/
def drawByte (e : Env) : Byte × Env :=
  match e.miso with
  | b :: rest => (b, { e with miso := rest })
  | [] => (Config.freeByte e.byteDraws, { e with byteDraws := e.byteDraws + 1 })

/-- `n` such bytes, in order. -/
def drawBytes : Nat → Env → List Byte × Env
  | 0, e => ([], e)
  | n + 1, e =>
    let first := drawByte e
    let others := drawBytes n first.2
    (first.1 :: others.1, others.2)

/-- Who moves next (R15, R256): the environment's next choice, else a free value. -/
def drawTurn (e : Env) : Turn × Env :=
  match e.turns with
  | t :: rest => (t, { e with turns := rest })
  | [] => (Config.freeTurn e.turnDraws, { e with turnDraws := e.turnDraws + 1 })

/-- `AttemptExpired()` (R151): the environment's next draw, else a free value. -/
def drawExpiry (e : Env) : Bool × Env :=
  match e.expiry with
  | b :: rest => (b, { e with expiry := rest })
  | [] => (Config.freeExpiry e.expiryDraws, { e with expiryDraws := e.expiryDraws + 1 })

/-! ### Events and streams -/

/-- `event(e)` (R12, R37). -/
def logEvent (e : Event) (s : State) : State := { s with history := s.history ++ [e] }

/-- `emit_uart(l)` (R12, R233): one unit on the outbound UART stream. -/
def emitUart (l : List Byte) (s : State) : State :=
  { s with uartTx := s.uartTx ++ [l], history := s.history ++ [.uartTx l] }

/-! ### SPI -/

/-- The outcome of one transaction at the device. -/
structure Xfer where
  rx : List Byte
  dev : Device
  env : Env
deriving DecidableEq, Repr

/-- The device agent's part of one `SpiXfer` (R10, R60): draws with no law, or the reference model's
answer (R71), in the simulator variant after a requested mode change took effect. With no law each byte is its
own draw, so that the bytes of a burst may come from different moments (R58). Under a device law the model's
choice is that a whole burst comes from one moment: the device's own activity falls between transactions
(log 28). -/
def deviceXfer (tx : List Byte) (d : Device) (e : Env) : Xfer :=
  match d.law with
  | .any =>
    let raw := drawBytes tx.length e
    ⟨raw.1, d, raw.2⟩
  | .reference =>
    let raw := drawBytes tx.length e
    let ans := d.answer tx raw.1
    ⟨ans.1, ans.2, raw.2⟩
  | .simulator =>
    let mode := drawByte e
    let raw := drawBytes tx.length mode.2
    let ans := (d.takeLastMode mode.1).answer tx raw.1
    ⟨ans.1, ans.2, raw.2⟩

/-- One SPI transaction and its event (R10, R37). -/
def transact (tx : List Byte) (s : State) : State :=
  let r := deviceXfer tx s.dev s.env
  { s with dev := r.dev, env := r.env, history := s.history ++ [.spi tx r.rx] }

/-- The bytes a transaction brings in. -/
def misoOf (tx : List Byte) (s : State) : List Byte := (deviceXfer tx s.dev s.env).rx

/-- The end of a SEQ step at the next position of the rule (R23). -/
def goTo (p : Point) (s : State) : State :=
  { s with step := s.step + 1, scratch := { s.scratch with point := p } }

/-- `rx <- SpiXfer(tx)` as the end of a SEQ step (R23): the bytes wait in the local `rx`. -/
def seqXfer (tx : List Byte) (p : Point) (s : State) : State :=
  goTo p { transact tx s with scratch := { s.scratch with rx := some (misoOf tx s) } }

/-- `emit_uart(l)` as the end of a SEQ step (R23). -/
def seqEmit (l : List Byte) (p : Point) (s : State) : State := goTo p (emitUart l s)

/-! ### Accepting and completing an operation -/

/-- Accepting an operation (R22). -/
def accept (c : Command) (s : State) : State :=
  { s with
    op := some c
    step := 0
    result := .none
    seqState := .busy
    scratch := Scratch.unwritten }

/-- An operation ends and SEQ returns to IDLE (R12, R23). -/
def finish (o : Operation) (r : OpResult) (s : State) : State :=
  { s with
    result := r
    step := 0
    seqState := .idle
    history := s.history ++ [.done o r] }

/-- `return v` (R12). -/
def finishOk (i : Instr) (v : Value) (s : State) : State := finish (.legal i) (.ok v) s

/-- A fatal error (R253): SEQ enters FAULT. -/
def enterFault (o : Operation) (e : ErrorCode) (info : Byte) (s : State) : State :=
  { s with
    result := .err e info
    faultCode := errorCode e
    step := 0
    seqState := .fault
    history := s.history ++ [.done o (.err e info)] }

/-- `raise E(info)` (R12, R251): the one shared operation that takes an error. -/
def raiseError (o : Operation) (e : ErrorCode) (info : Byte) (s : State) : State :=
  if errorFatal e then enterFault o e info s else finish o (.err e info) s

/-- `raise` in a host operation's rule. -/
def raiseOp (i : Instr) (e : ErrorCode) (info : Byte) (s : State) : State :=
  raiseError (.legal i) e info s

/-- An operation taken in FAULT (R254): `Err(Faulted, 0)`, nothing else written, SEQ stays in FAULT. -/
def completeFaulted (o : Operation) (s : State) : State :=
  { s with
    result := .err .faulted 0x00
    history := s.history ++ [.done o (.err .faulted 0x00)] }

/-- The first admission check (R255.1) before an operation's own rule. -/
def unlessFault (i : Instr) (s : State) (rule : Point → Host.Outcome State Fault Refusal) :
    Host.Outcome State Fault Refusal :=
  if s.seqState = .fault then .next (completeFaulted (.legal i) s) else rule s.scratch.point

/-- Reading a scratch field (R31): `ReadUnwritten` where the operation has not written it. -/
def readScratch {α : Type} (x : Option α) (rule : α → Host.Outcome State Fault Refusal) :
    Host.Outcome State Fault Refusal :=
  match x with
  | some a => rule a
  | none => .fault .readUnwritten

/-- `rx[k]` of the last transaction. -/
def rxByte (s : State) (k : Nat) : Option Byte := s.scratch.rx.bind fun l => l[k]?

/-- Block reset (R280): every SEQ and URX register takes its reset value; the device, the parameters and
the streams are not touched. That the command port goes on holding an operation not yet accepted, and SEQ accepts
it after the reset, is the model's choice, as no rule says (log 3). -/
def blockReset (s : State) : State :=
  { s with
    seqState := .idle
    op := none
    step := 0
    attempt := 0
    initialized := false
    curMode := .unknown
    filtersLocked := false
    faultCode := 0x00
    result := .none
    rxFifo := []
    scratch := Scratch.unwritten
    urx := Urx.reset
    history := s.history ++ [.reset] }

end Sys2Proof.Machine
end

