-- ==== Sys2Proof/Machine/CodecOps.lean ====
section
/-! DEFINITION. The status and codec operations: GET_STATUS (spec/41_spi_access.md rule R120) and opcodes
0x10 to 0x15 (spec/43_id_codec.md rules R190 to R201). Each completes in one SEQ step. -/

namespace Sys2Proof.Machine

/-- An operation without SpiXfer or emit_uart completes in a single step, at position 0 (R23). -/
def singleStep (i : Instr) (s : State) (rule : State) : Host.Outcome State Fault Refusal :=
  unlessFault i s fun
    | .start => .next rule
    | _ => .fault .noSuchPosition

/-- GET_STATUS (R120). -/
def execGetStatus (s : State) : Host.Outcome State Fault Refusal :=
  singleStep .getStatus s (finishOk .getStatus (.status (statusAtAcceptance s)) s)

/-- ENC_ID (R190). -/
def execEncId (id : Id) (ext : Bool) (s : State) : Host.Outcome State Fault Refusal :=
  let i := Instr.encId id ext
  singleStep i s
    (if badId id ext then raiseOp i .idOutOfRange 0x00 s
     else finishOk i (.bytes (idBytes (encIdImage id ext))) s)

/-- DEC_ID (R192). -/
def execDecId (img : IdImage) (s : State) : Host.Outcome State Fault Refusal :=
  let i := Instr.decId img
  singleStep i s (finishOk i (.ident (decIdValue img) (decExt img)) s)

/-- ENC_DLC (R194). -/
def execEncDlc (n : Byte) (rtr : Bool) (s : State) : Host.Outcome State Fault Refusal :=
  let i := Instr.encDlc n rtr
  singleStep i s
    (if longCan n.toNat then raiseOp i .payloadTooLong (lengthDetail n.toNat) s
     else finishOk i (.byte (encDlcByte n.toNat rtr)) s)

/-- DEC_DLC (R195). -/
def execDecDlc (b : Byte) (s : State) : Host.Outcome State Fault Refusal :=
  let i := Instr.decDlc b
  singleStep i s (finishOk i (.dlc (decDlcLen b) (decDlcRtr b)) s)

/-- ENC_FRAME (R197): PayloadTooLong is checked first. -/
def execEncFrame (f : CanFrame) (s : State) : Host.Outcome State Fault Refusal :=
  let i := Instr.encFrame f
  singleStep i s
    (if longCan f.data.length then raiseOp i .payloadTooLong (lengthDetail f.data.length) s
     else if badId f.id f.ext then raiseOp i .idOutOfRange 0x00 s
     else finishOk i (.bytes (encFrameBytes f)) s)

/-- DEC_FRAME (R198). -/
def execDecFrame (img : BufferImage) (s : State) : Host.Outcome State Fault Refusal :=
  let i := Instr.decFrame img
  singleStep i s (finishOk i (.frame (decFrameImage s.cfg.rtrSource img)) s)

end Sys2Proof.Machine
end

