-- ==== Sys2Proof/Machine/ModeSet.lean ====
section
/-! DEFINITION. The mode-set procedure `ModeSet(m, E)` of spec/42_controller_ops.md rules R150 and R151,
expanded inline in INIT, SET_MODE and LISTEN (spec/00_scope.md rule R17). -/

namespace Sys2Proof.Machine

/-- `code(m) << 5` as a CANCTRL byte (R150): REQOP, with every other bit 0. -/
def modeBits (m : Mode) : Byte := fieldAt Config.dev.reqop (modeCode m)

/-- The mask of REQOP, 0xE0 (R150). -/
def modeMask : Byte := fieldMask Config.dev.reqop 3

/-- `code(m)` as a detail byte (R150, R250). -/
def modeDetail (m : Mode) : Byte := (modeCode m).setWidth 8

/-- CANCTRL.REQOP <- code(m): a BIT MODIFY with mask 0xE0 (R150). -/
def modeWriteFrame (m : Mode) : List Byte :=
  [SpiOp.byte .bitModify, Config.dev.canctrl, modeMask, modeBits m]

/-- The poll of CANSTAT (R150). -/
def modePollFrame : List Byte := [SpiOp.byte .read, Config.dev.canstat, Config.spiDummy]

/-- An attempt begins: `attempt <- a`, and the write of the mode bits (R150). -/
def modeAttempt (m : Mode) (c : ModeCall) (a : Nat) (s : State) : State :=
  seqXfer (modeWriteFrame m) (.modeWritten c) { s with attempt := a }

/-- ModeSet begins with attempt 1 (R150). -/
def modeStart (m : Mode) (c : ModeCall) (s : State) : State := modeAttempt m c 1 s

/-- A poll of the running attempt (R150). -/
def modePoll (c : ModeCall) (s : State) : State := seqXfer modePollFrame (.modePolled c) s

/-- What a poll leads to. -/
inductive ModeOutcome where
  /-- CANSTAT shows the mode: the procedure returns in this state. -/
  | confirmed (s : State)
  /-- The next SpiXfer of the procedure has been done: the SEQ step ends in this state. -/
  | going (s : State)
  /-- The last attempt expired: the caller's error is raised in this state. -/
  | exhausted (s : State)
deriving DecidableEq, Repr

/-- ModeSet after a poll that brought in `canstat` (R150, R151). -/
def modeCheck (m : Mode) (c : ModeCall) (canstat : Byte) (s : State) : ModeOutcome :=
  if canstat.extractLsb' Config.dev.opmod 3 = modeCode m then
    .confirmed { s with attempt := 0, curMode := .known m }
  else
    let draw := drawExpiry s.env
    let s1 := { s with env := draw.2 }
    if draw.1 = false then .going (modePoll c s1)
    else if s1.attempt < Config.modeAttempts then .going (modeAttempt m c (s1.attempt + 1) s1)
    else .exhausted { s1 with attempt := 0 }

/-- The SEQ step after a poll: go on with the caller's rule, with the procedure, or raise the caller's
error with `code(m)` (R150). -/
def modePolledStep (i : Instr) (m : Mode) (c : ModeCall) (e : ErrorCode) (s : State)
    (rest : State → Host.Outcome State Fault Refusal) : Host.Outcome State Fault Refusal :=
  readScratch (rxByte s 2) fun canstat =>
    match modeCheck m c canstat s with
    | .confirmed s' => rest s'
    | .going s' => .next s'
    | .exhausted s' => .next (raiseOp i e (modeDetail m) s')

end Sys2Proof.Machine
end

