-- ==== Sys2Proof/Machine/SpiOps.lean ====
section
/-! DEFINITION. The SPI register-access primitives, opcodes 0x30 to 0x38 (spec/41_spi_access.md rules R121
to R130). Each does one SpiXfer in a first SEQ step and returns in a second (R23). -/

namespace Sys2Proof.Machine

/-- The shape the primitives share: their checks and their transaction at position 0, the return after it. -/
def oneXfer (i : Instr) (s : State) (begin : State) (ending : Host.Outcome State Fault Refusal) :
    Host.Outcome State Fault Refusal :=
  unlessFault i s fun
    | .start => .next begin
    | .sent 0 => ending
    | _ => .fault .noSuchPosition

/-- What SPI_RESET and INIT clear (R121, R160). -/
def forgetDevice (s : State) : State :=
  { s with initialized := false, curMode := .unknown, filtersLocked := false }

/-- SPI_RESET (R121). -/
def execSpiReset (s : State) : Host.Outcome State Fault Refusal :=
  oneXfer .spiReset s (seqXfer [SpiOp.byte .reset] (.sent 0) (forgetDevice s))
    (.next (finishOk .spiReset .unit s))

/-- REG_READ (R122). -/
def execRegRead (addr : Byte) (n : Nat) (s : State) : Host.Outcome State Fault Refusal :=
  let i := Instr.regRead addr n
  oneXfer i s
    (if badBurst addr n then raiseOp i .illegalOperand 0x00 s
     else seqXfer ([SpiOp.byte .read, addr] ++ dummies n) (.sent 0) s)
    (readScratch s.scratch.rx fun rx => .next (finishOk i (.bytes ((rx.drop 2).take n)) s))

/-- REG_WRITE (R123). -/
def execRegWrite (addr : Byte) (data : List Byte) (s : State) : Host.Outcome State Fault Refusal :=
  let i := Instr.regWrite addr data
  oneXfer i s
    (if badBurst addr data.length then raiseOp i .illegalOperand 0x00 s
     else seqXfer ([SpiOp.byte .write, addr] ++ data) (.sent 0) s)
    (.next (finishOk i .unit s))

/-- BIT_MODIFY (R124). -/
def execBitModify (addr mask data : Byte) (s : State) : Host.Outcome State Fault Refusal :=
  let i := Instr.bitModify addr mask data
  oneXfer i s
    (if badAddr addr then raiseOp i .illegalOperand 0x00 s
     else seqXfer [SpiOp.byte .bitModify, addr, mask, data] (.sent 0) s)
    (.next (finishOk i .unit s))

/-- READ_STATUS (R125). -/
def execReadStatus (s : State) : Host.Outcome State Fault Refusal :=
  oneXfer .readStatus s (seqXfer [SpiOp.byte .readStatus, Config.spiDummy] (.sent 0) s)
    (readScratch (rxByte s 1) fun b => .next (finishOk .readStatus (.byte b) s))

/-- RX_STATUS (R126). -/
def execRxStatus (s : State) : Host.Outcome State Fault Refusal :=
  oneXfer .rxStatus s (seqXfer [SpiOp.byte .rxStatus, Config.spiDummy] (.sent 0) s)
    (readScratch (rxByte s 1) fun b => .next (finishOk .rxStatus (.byte b) s))

/-- RTS (R127). An accepted `t` is at most 7, so that the field R92 gives RTS holds all of it. -/
def execRts (t : Byte) (s : State) : Host.Outcome State Fault Refusal :=
  let i := Instr.rts t
  oneXfer i s
    (if badRts t then raiseOp i .illegalOperand 0x00 s
     else seqXfer [rtsByte (t.setWidth 3)] (.sent 0) s)
    (.next (finishOk i .unit s))

/-- LOAD_TX (R128). `sel` is the abc field (R93). -/
def execLoadTx (sel : Byte) (data : List Byte) (s : State) : Host.Outcome State Fault Refusal :=
  let i := Instr.loadTx sel data
  oneXfer i s
    (if badLoadTx sel data.length then raiseOp i .illegalOperand 0x00 s
     else seqXfer ([loadTxByte (sel.setWidth 3)] ++ data) (.sent 0) s)
    (.next (finishOk i .unit s))

/-- READ_RX (R129). `sel` is the nm field (R94). -/
def execReadRx (sel : Byte) (n : Nat) (s : State) : Host.Outcome State Fault Refusal :=
  let i := Instr.readRx sel n
  oneXfer i s
    (if badReadRx sel n then raiseOp i .illegalOperand 0x00 s
     else seqXfer ([readRxByte (sel.getLsbD 1) (sel.getLsbD 0)] ++ dummies n) (.sent 0) s)
    (readScratch s.scratch.rx fun rx => .next (finishOk i (.bytes ((rx.drop 1).take n)) s))

end Sys2Proof.Machine
end

