-- ==== Sys2Proof/Machine/ControllerOps.lean ====
section
/-! DEFINITION. The composite controller operations, opcodes 0x40 to 0x45 (spec/42_controller_ops.md rules
R152 and R160 to R171), one SpiXfer a SEQ step (R23). -/

namespace Sys2Proof.Machine

/-- `TXB(n) + 1`, TXBnSIDH, as an address byte (R68, R164). -/
def txbSidhByte (n : Fin Config.nTxBuf) : Byte := Config.dev.txb[n] + Config.dev.sidhOffset

/-! ### INIT -/

/-- INIT's checks and its first transaction (R160). -/
def initBegin (i : Instr) (bitrate crystal : Nat) (mode : Mode) (silent : Bool) (s : State) : State :=
  if mode = .config then raiseOp i .illegalOperand 0x00 s
  else
    match bitrateLookup s.cfg.bitrateTable bitrate crystal with
    | none => raiseOp i .unsupportedBitrate 0x00 s
    | some _ =>
      if mode = .loopback ∧ silent = false then raiseOp i .invalidModeCombination 0x00 s
      else seqXfer [SpiOp.byte .reset] (.sent 0) (forgetDevice s)

/-- A WRITE of 0x00 to the control register at a buffer's base. -/
def clearCtrl (base : Byte) : List Byte := [SpiOp.byte .write, base, 0x00]

/-- RX1IE and RX0IE of CANINTE (R160). -/
def rxInterrupts : Byte := bitMask Config.dev.rxie[0] ||| bitMask Config.dev.rxie[1]

/-- INIT's transaction after its own k-th one, from the second on (R160); none after the last. -/
def initFrame : Nat → Option (List Byte)
  | 1 => some (clearCtrl Config.dev.txb[0])
  | 2 => some (clearCtrl Config.dev.txb[1])
  | 3 => some (clearCtrl Config.dev.txb[2])
  | 4 => some (clearCtrl Config.dev.rxb[0])
  | 5 => some (clearCtrl Config.dev.rxb[1])
  | 6 => some [SpiOp.byte .write, Config.dev.caninte, rxInterrupts]
  | 7 =>
    some [SpiOp.byte .bitModify, Config.dev.rxb[0], bitMask Config.dev.bukt, bitMask Config.dev.bukt]
  | _ => none

/-- INIT (R160). -/
def execInit (bitrate crystal : Nat) (mode : Mode) (silent : Bool) (s : State) :
    Host.Outcome State Fault Refusal :=
  let i := Instr.init bitrate crystal mode silent
  unlessFault i s fun
    | .start => .next (initBegin i bitrate crystal mode silent s)
    | .sent 0 => .next (modeStart .config .first s)
    | .modeWritten c => .next (modePoll c s)
    | .modePolled .first =>
      modePolledStep i .config .first .chipInitFailure s fun s1 =>
        readScratch (bitrateLookup s1.cfg.bitrateTable bitrate crystal) fun t =>
          .next (seqXfer [SpiOp.byte .write, Config.dev.cnf3, t.cnf3, t.cnf2, t.cnf1] (.sent 1) s1)
    | .sent 8 => .next (modeStart mode .second s)
    | .sent k =>
      match initFrame k with
      | some frame => .next (seqXfer frame (.sent (k + 1)) s)
      | none => .fault .noSuchPosition
    | .modePolled .second =>
      modePolledStep i mode .second .modeChangeTimeout s fun s1 =>
        .next (finishOk i .unit { s1 with initialized := true })

/-! ### SET_MODE -/

/-- SET_MODE (R162). -/
def execSetMode (mode : Mode) (s : State) : Host.Outcome State Fault Refusal :=
  let i := Instr.setMode mode
  unlessFault i s fun
    | .start =>
      .next (if s.initialized then modeStart mode .first s else raiseOp i .notInitialized 0x00 s)
    | .modeWritten .first => .next (modePoll .first s)
    | .modePolled .first =>
      modePolledStep i mode .first .modeChangeTimeout s fun s1 => .next (finishOk i .unit s1)
    | _ => .fault .noSuchPosition

/-! ### SEND -/

/-- SEND's checks and its status query (R164). -/
def sendBegin (i : Instr) (f : CanFrame) (s : State) : State :=
  if longCan f.data.length then raiseOp i .payloadTooLong (lengthDetail f.data.length) s
  else if badId f.id f.ext then raiseOp i .idOutOfRange 0x00 s
  else if s.initialized then seqXfer [SpiOp.byte .readStatus, Config.spiDummy] (.sent 0) s
  else raiseOp i .notInitialized 0x00 s

/-- SEND's buffer selection and load (R164, R165). -/
def sendLoad (i : Instr) (f : CanFrame) (st : Byte) (s : State) : State :=
  let s1 := { s with scratch := { s.scratch with st := some st } }
  match freeTxBuffer st with
  | none => raiseOp i .noBufferAvailable st s1
  | some sel =>
    seqXfer ([SpiOp.byte .write, txbSidhByte sel] ++ encFrameBytes f) (.sent 1)
      { s1 with scratch := { s1.scratch with sel := some sel } }

/-- SEND (R164). -/
def execSend (f : CanFrame) (s : State) : Host.Outcome State Fault Refusal :=
  let i := Instr.send f
  unlessFault i s fun
    | .start => .next (sendBegin i f s)
    | .sent 0 => readScratch (rxByte s 1) fun st => .next (sendLoad i f st s)
    | .sent 1 =>
      readScratch s.scratch.sel fun sel =>
        .next (seqXfer [rtsByte (BitVec.twoPow 3 sel.val)] (.sent 2) s)
    | .sent 2 => readScratch s.scratch.sel fun sel => .next (finishOk i (.index sel.val) s)
    | _ => .fault .noSuchPosition

/-! ### POLL_RECEIVE -/

/-- The buffer read of receive buffer n (R166). -/
def pollFrame (n : Fin Config.nRxBuf) : List Byte := [readRxByte (n == 1) false] ++ dummies 13

/-- The FIFO is drained into the result (R166). -/
def pollDrain (s : State) : State :=
  finishOk .pollReceive (.frames s.rxFifo) { s with rxFifo := [] }

/-- After RXB0: RXB1 where its flag is set in `st`, else the end (R166). -/
def pollSecond (st : Byte) (s : State) : State :=
  if st.getLsbD Config.dev.statusRxif[1] then seqXfer (pollFrame 1) (.sent 2) s else pollDrain s

/-- After the status read: RXB0 where its flag is set, else RXB1 (R166). -/
def pollFirst (st : Byte) (s : State) : State :=
  if st.getLsbD Config.dev.statusRxif[0] then seqXfer (pollFrame 0) (.sent 1) s else pollSecond st s

/-- `buf <- rx[1:14]`, and the decoded frame enters the FIFO (R166). -/
def pollPush (buf : List Byte) (img : BufferImage) (s : State) : State :=
  { s with
    rxFifo := s.rxFifo ++ [decFrameImage s.cfg.rtrSource img]
    scratch := { s.scratch with buf := some buf } }

/-- The 13 bytes `rx[1:14]` of a buffer read. -/
def pollBuf (rx : List Byte) : List Byte := (rx.drop 1).take 13

/-- POLL_RECEIVE (R166). -/
def execPollReceive (s : State) : Host.Outcome State Fault Refusal :=
  unlessFault .pollReceive s fun
    | .start =>
      .next
        (if s.initialized then seqXfer [SpiOp.byte .readStatus, Config.spiDummy] (.sent 0) s
         else raiseOp .pollReceive .notInitialized 0x00 s)
    | .sent 0 =>
      readScratch (rxByte s 1) fun st =>
        .next (pollFirst st { s with scratch := { s.scratch with st := some st } })
    | .sent 1 =>
      readScratch s.scratch.rx fun rx =>
        readScratch (imageOfBytes (pollBuf rx)) fun img =>
          readScratch s.scratch.st fun st => .next (pollSecond st (pollPush (pollBuf rx) img s))
    | .sent 2 =>
      readScratch s.scratch.rx fun rx =>
        readScratch (imageOfBytes (pollBuf rx)) fun img =>
          .next (pollDrain (pollPush (pollBuf rx) img s))
    | _ => .fault .noSuchPosition

/-! ### BUS_STATE -/

/-- BUS_STATE (R168). -/
def execBusState (s : State) : Host.Outcome State Fault Refusal :=
  oneXfer .busState s
    (if s.initialized then seqXfer [SpiOp.byte .read, Config.dev.eflg, Config.spiDummy] (.sent 0) s
     else raiseOp .busState .notInitialized 0x00 s)
    (readScratch (rxByte s 2) fun e => .next (finishOk .busState (.bus (busStateOf e)) s))

/-! ### LISTEN -/

/-- The four bytes of an IdSpec's image (R170). -/
def specBytes (x : IdSpec) : List Byte := idBytes (encIdImage x.value x.ext)

/-- LISTEN's write of the masks: all zero for the empty set (R171). -/
def maskFrame : FilterSet → List Byte
  | .empty => [SpiOp.byte .write, Config.dev.rxm[0]] ++ List.replicate 8 0x00
  | .full r => [SpiOp.byte .write, Config.dev.rxm[0]] ++ specBytes r.mask0 ++ specBytes r.mask1

/-- LISTEN's write of RXF0 to RXF2 (R171). -/
def filterFrameLow (r : FilterRecord) : List Byte :=
  [SpiOp.byte .write, Config.dev.rxf[0]] ++ specBytes r.filt0 ++ specBytes r.filt1 ++ specBytes r.filt2

/-- LISTEN's write of RXF3 to RXF5 (R171). -/
def filterFrameHigh (r : FilterRecord) : List Byte :=
  [SpiOp.byte .write, Config.dev.rxf[3]] ++ specBytes r.filt3 ++ specBytes r.filt4 ++ specBytes r.filt5

/-- LISTEN's checks and the start of its first ModeSet (R171). -/
def listenBegin (i : Instr) (fs : FilterSet) (s : State) : State :=
  if badFilters fs then raiseOp i .idOutOfRange 0x00 s
  else if s.initialized = false then raiseOp i .notInitialized 0x00 s
  else if s.filtersLocked then raiseOp i .filterLocked 0x00 s
  else
    modeStart .config .first
      { s with scratch := { s.scratch with prior := curModeKnown s.curMode } }

/-- LISTEN (R171). -/
def execListen (fs : FilterSet) (s : State) : Host.Outcome State Fault Refusal :=
  let i := Instr.listen fs
  unlessFault i s fun
    | .start => .next (listenBegin i fs s)
    | .modeWritten c => .next (modePoll c s)
    | .modePolled .first =>
      modePolledStep i .config .first .modeChangeTimeout s fun s1 =>
        .next (seqXfer (maskFrame fs) (.sent 0) s1)
    | .sent 0 =>
      match fs with
      | .empty => readScratch s.scratch.prior fun m => .next (modeStart m .second s)
      | .full r => .next (seqXfer (filterFrameLow r) (.sent 1) s)
    | .sent 1 =>
      match fs with
      | .empty => .fault .noSuchPosition
      | .full r => .next (seqXfer (filterFrameHigh r) (.sent 2) s)
    | .sent 2 =>
      match fs with
      | .empty => .fault .noSuchPosition
      | .full _ => readScratch s.scratch.prior fun m => .next (modeStart m .second s)
    | .modePolled .second =>
      readScratch s.scratch.prior fun m =>
        modePolledStep i m .second .modeChangeTimeout s fun s1 =>
          .next (finishOk i .unit { s1 with filtersLocked := true })
    | _ => .fault .noSuchPosition

end Sys2Proof.Machine
end

