-- ==== Sys2Proof/Machine/DeviceOps.lean ====
section
/-! DEFINITION. The SPI instructions of spec/30_encoding.md rule R92 as the device's port sees them: one
transaction with the frame R92 gives (its length is its framing, R96), answered by `deviceXfer` (spec/20_memory.md rules R60,
R63, R71). SEQ sends the same frames through `SpiXfer`; log 9. -/

namespace Sys2Proof.Machine

/-- A transaction on the device's port: it is taken off the link and answered (log 9). -/
def portTransaction (frame : List Byte) (s : State) : Host.Outcome State Fault Refusal :=
  .next (transact frame { s with link := none })

/-- SPI RESET (R92, R71). -/
def execSpiInstrReset (s : State) : Host.Outcome State Fault Refusal :=
  portTransaction [SpiOp.byte .reset] s

/-- SPI READ (R92, R71). -/
def execSpiRead (addr : Byte) (n : Nat) (s : State) : Host.Outcome State Fault Refusal :=
  portTransaction ([SpiOp.byte .read, addr] ++ dummies n) s

/-- SPI READ RX BUFFER (R92, R94, R71). -/
def execSpiReadRxBuffer (n m : Bool) (count : Nat) (s : State) : Host.Outcome State Fault Refusal :=
  portTransaction ([readRxByte n m] ++ dummies count) s

/-- SPI WRITE (R92, R71). -/
def execSpiWrite (addr : Byte) (data : List Byte) (s : State) : Host.Outcome State Fault Refusal :=
  portTransaction ([SpiOp.byte .write, addr] ++ data) s

/-- SPI LOAD TX BUFFER (R92, R93, R71). -/
def execSpiLoadTxBuffer (abc : BitVec 3) (data : List Byte) (s : State) :
    Host.Outcome State Fault Refusal :=
  portTransaction ([loadTxByte abc] ++ data) s

/-- SPI RTS (R92, R95, R71). -/
def execSpiRts (t : BitVec 3) (s : State) : Host.Outcome State Fault Refusal :=
  portTransaction [rtsByte t] s

/-- SPI READ STATUS (R92, R72). -/
def execSpiReadStatus (s : State) : Host.Outcome State Fault Refusal :=
  portTransaction [SpiOp.byte .readStatus, Config.spiDummy] s

/-- SPI RX STATUS (R92, R126). -/
def execSpiRxStatus (s : State) : Host.Outcome State Fault Refusal :=
  portTransaction [SpiOp.byte .rxStatus, Config.spiDummy] s

/-- SPI BIT MODIFY (R92, R63). -/
def execSpiBitModify (addr mask data : Byte) (s : State) : Host.Outcome State Fault Refusal :=
  portTransaction [SpiOp.byte .bitModify, addr, mask, data] s

end Sys2Proof.Machine
end

