-- ==== Sys2Proof/Machine/Uart.lean ====
section
/-! DEFINITION. UFR, the UART frame format: checksum, building and parsing
(spec/30_encoding.md rule R100, spec/44_uart_framer.md rules R220, R221 and R223). -/

namespace Sys2Proof.Machine

/-- The exact sum of a list of bytes (R16). -/
def byteSum : List Byte → Nat
  | [] => 0
  | b :: bs => b.toNat + byteSum bs

/-- `(type + len + Σ payload) mod 256` (R16, R220). -/
def frameSum (type : Byte) (payload : List Byte) : Byte :=
  BitVec.ofNat 8 (type.toNat + payload.length + byteSum payload)

/-- `Cks` on a payload that fits (R220). -/
def uartCksByte (type : Byte) (payload : List Byte) : Byte := frameSum type payload ^^^ 0xFF

/-- `Build` on a payload that fits (R100, R221). -/
def uartFrameBytes (type : Byte) (payload : List Byte) : List Byte :=
  [Config.uartHeader, type, BitVec.ofNat 8 payload.length] ++ payload ++ [uartCksByte type payload]

/-- `Parse` (R223): the type and payload, or the reason byte of FrameCorrupt. -/
def uartParseBytes (bytes : List Byte) : Except Byte (Byte × List Byte) :=
  match bytes with
  | header :: type :: len :: c :: rest =>
    let body := c :: rest
    if header ≠ Config.uartHeader then .error 2
    else if bytes.length ≠ 4 + len.toNat then .error 3
    else
      let payload := body.take len.toNat
      if body.drop len.toNat = [uartCksByte type payload] then .ok (type, payload) else .error 4
  | _ => .error 1

end Sys2Proof.Machine
end

