-- ==== Sys2Proof/Machine/UartOps.lean ====
section
/-! DEFINITION. The UART operations, opcodes 0x20 to 0x23 (spec/44_uart_framer.md rules R220 to R225). -/

namespace Sys2Proof.Machine

/-- UART_CKS (R220). -/
def execUartCks (type : Byte) (payload : List Byte) (s : State) : Host.Outcome State Fault Refusal :=
  let i := Instr.uartCks type payload
  singleStep i s
    (if longUart payload.length then raiseOp i .payloadTooLong (lengthDetail payload.length) s
     else finishOk i (.byte (uartCksByte type payload)) s)

/-- UART_BUILD (R221). -/
def execUartBuild (type : Byte) (payload : List Byte) (s : State) : Host.Outcome State Fault Refusal :=
  let i := Instr.uartBuild type payload
  singleStep i s
    (if longUart payload.length then raiseOp i .payloadTooLong (lengthDetail payload.length) s
     else finishOk i (.bytes (uartFrameBytes type payload)) s)

/-- UART_SEND (R222): one unit on the UART tx stream, then the return. -/
def execUartSend (type : Byte) (payload : List Byte) (s : State) : Host.Outcome State Fault Refusal :=
  let i := Instr.uartSend type payload
  unlessFault i s fun
    | .start =>
      .next
        (if longUart payload.length then raiseOp i .payloadTooLong (lengthDetail payload.length) s
         else seqEmit (uartFrameBytes type payload) (.sent 0) s)
    | .sent 0 => .next (finishOk i .unit s)
    | _ => .fault .noSuchPosition

/-- UART_PARSE (R223). -/
def execUartParse (bytes : List Byte) (s : State) : Host.Outcome State Fault Refusal :=
  let i := Instr.uartParse bytes
  singleStep i s
    (match uartParseBytes bytes with
     | .error reason => raiseOp i .frameCorrupt reason s
     | .ok (type, payload) => finishOk i (.uart type payload) s)

end Sys2Proof.Machine
end

