-- ==== Sys2Proof/Machine/Dispatch.lean ====
section
/-! DEFINITION. The meaning of an instruction: for a host operation the next SEQ step of its rule
(spec/10_state.md rule R23), for an SPI instruction its transaction at the device. -/

namespace Sys2Proof.Machine

def exec (i : Instr) (s : State) : Host.Outcome State Fault Refusal :=
  match i with
  | .getStatus => Sys2Proof.Machine.execGetStatus s
  | .encId id ext => Sys2Proof.Machine.execEncId id ext s
  | .decId img => Sys2Proof.Machine.execDecId img s
  | .encDlc n rtr => Sys2Proof.Machine.execEncDlc n rtr s
  | .decDlc b => Sys2Proof.Machine.execDecDlc b s
  | .encFrame f => Sys2Proof.Machine.execEncFrame f s
  | .decFrame img => Sys2Proof.Machine.execDecFrame img s
  | .uartCks type payload => Sys2Proof.Machine.execUartCks type payload s
  | .uartBuild type payload => Sys2Proof.Machine.execUartBuild type payload s
  | .uartSend type payload => Sys2Proof.Machine.execUartSend type payload s
  | .uartParse bytes => Sys2Proof.Machine.execUartParse bytes s
  | .spiReset => Sys2Proof.Machine.execSpiReset s
  | .regRead addr n => Sys2Proof.Machine.execRegRead addr n s
  | .regWrite addr data => Sys2Proof.Machine.execRegWrite addr data s
  | .bitModify addr mask data => Sys2Proof.Machine.execBitModify addr mask data s
  | .readStatus => Sys2Proof.Machine.execReadStatus s
  | .rxStatus => Sys2Proof.Machine.execRxStatus s
  | .rts t => Sys2Proof.Machine.execRts t s
  | .loadTx sel data => Sys2Proof.Machine.execLoadTx sel data s
  | .readRx sel n => Sys2Proof.Machine.execReadRx sel n s
  | .init bitrate crystal mode silent => Sys2Proof.Machine.execInit bitrate crystal mode silent s
  | .setMode mode => Sys2Proof.Machine.execSetMode mode s
  | .send f => Sys2Proof.Machine.execSend f s
  | .pollReceive => Sys2Proof.Machine.execPollReceive s
  | .busState => Sys2Proof.Machine.execBusState s
  | .listen fs => Sys2Proof.Machine.execListen fs s
  | .spiInstrReset => Sys2Proof.Machine.execSpiInstrReset s
  | .spiRead addr n => Sys2Proof.Machine.execSpiRead addr n s
  | .spiReadRxBuffer n m count => Sys2Proof.Machine.execSpiReadRxBuffer n m count s
  | .spiWrite addr data => Sys2Proof.Machine.execSpiWrite addr data s
  | .spiLoadTxBuffer abc data => Sys2Proof.Machine.execSpiLoadTxBuffer abc data s
  | .spiRts t => Sys2Proof.Machine.execSpiRts t s
  | .spiReadStatus => Sys2Proof.Machine.execSpiReadStatus s
  | .spiRxStatus => Sys2Proof.Machine.execSpiRxStatus s
  | .spiBitModify addr mask data => Sys2Proof.Machine.execSpiBitModify addr mask data s

end Sys2Proof.Machine
end

