-- ==== Sys2Proof/Machine/Receiver.lean ====
section
/-! DEFINITION. URX, the UART receiver (spec/44_uart_framer.md rules R230 to R235). -/

namespace Sys2Proof.Machine

/-- `u_sum` after one more byte, mod 256 (R230). -/
def addSum (sum b : Byte) : Byte := sum + b

/-- The registers after a byte in HUNT, TYPE, LEN or DATA; CKS returns to HUNT (R230). -/
def urxNext (u : Urx) (b : Byte) : Urx :=
  match u.state with
  | .hunt => if b = Config.uartHeader then { u with state := .type } else u
  | .type => { u with utype := b, sum := b, state := .len }
  | .len =>
    { u with
      len := b
      sum := addSum u.sum b
      cnt := 0
      state := if b = 0x00 then .cks else .data }
  | .data =>
    { u with
      buf := u.buf.setIfInBounds u.cnt b
      sum := addSum u.sum b
      cnt := u.cnt + 1
      state := if u.cnt + 1 = u.len.toNat then .cks else .data }
  | .cks => { u with state := .hunt }

/-- `u_buf[0:n]` (R32). -/
def urxPayload (u : Urx) (n : Nat) : List Byte := u.buf.toList.take n

/-- `exp`, the checksum a sound frame carries (R231). -/
def urxExpected (u : Urx) : Byte := u.sum ^^^ 0xFF

/-- `Deliver(c)`, the events and the ACK of a complete frame (R231). -/
def deliver (c : Byte) (s : State) : State :=
  let u := s.urx
  let cksOk := decide (c = urxExpected u)
  if cksOk || !s.cfg.checksumEnforce then
    let s1 := logEvent (.uartFrame u.utype (urxPayload u u.len.toNat) cksOk) s
    if s.cfg.ackPolicy = .everyFrame ∨ s.cfg.ackPolicy = .validOnly then emitUart [Config.uartAck] s1
    else s1
  else
    let s1 := logEvent (.uartCorrupt u.utype u.len c (urxExpected u)) s
    if s.cfg.ackPolicy = .everyFrame then emitUart [Config.uartAck] s1 else s1

/-- URX consumes the byte `b` (R230). -/
def urxByte (b : Byte) (s : State) : State :=
  let s1 := logEvent (.uartRx b) s
  let s2 := match s.urx.state with
    | .cks => deliver b s1
    | _ => s1
  { s2 with urx := urxNext s.urx b }

/-- A step of URX: one byte, or nothing when none is present (R230). -/
def urxStep (s : State) : State :=
  match s.env.uartRx with
  | [] => s
  | b :: rest => urxByte b { s with env := { s.env with uartRx := rest } }

end Sys2Proof.Machine
end

