-- ==== Sys2Proof/Machine/Sequencer.lean ====
section
/-! DEFINITION. What each agent does when it moves (spec/00_scope.md rule R15): SEQ fetching its operation
(spec/10_state.md rules R21 to R23, spec/30_encoding.md rule R91, spec/60_exceptions.md rules R254, R255),
the device on a frame SEQ did not send, and the other turns. -/

namespace Sys2Proof.Machine

/-- A SEQ step in BUSY (R23): the operation in `op` runs from its position; an illegal opcode completes
with IllegalCommand (R91). -/
def busyStep (s : State) : Host.Outcome State Fault Refusal :=
  match s.op with
  | none => .fault .noOperation
  | some c =>
    match decodeHost c with
    | .ok i => exec i s
    | .error (.illegalOpcode b) => .next (raiseError (.illegal b) .illegalCommand b s)
    | .error _ => .refused (.notAnOperation c.opcode)

/-- An operation taken in FAULT completes at once (R21, R254), an illegal opcode included. -/
def faultStep (c : Command) (s : State) : Host.Outcome State Fault Refusal :=
  match decodeHost c with
  | .ok i => exec i s
  | .error (.illegalOpcode b) => .next (completeFaulted (.illegal b) s)
  | .error _ => .refused (.notAnOperation c.opcode)

/-- The operation on the command port is taken off it. -/
def takeOffer (s : State) : State := { s with env := { s.env with hostPort := none } }

/-- SEQ's step (R21): in IDLE and FAULT it takes the operation on the port where there is one, in BUSY it goes
on. -/
def seqStep (s : State) : Host.Outcome State Fault Refusal :=
  match s.seqState with
  | .busy => busyStep s
  | .idle =>
    match s.env.hostPort with
    | none => .next s
    | some c => .next (accept c (takeOffer s))
  | .fault =>
    match s.env.hostPort with
    | none => .next s
    | some c => faultStep c (takeOffer s)

/-- A command is an operation the host can issue: a legal one, or one with an illegal opcode (R90, R91). A
record that R90 does not fix for its opcode is none (log 19). -/
def isOperation (c : Command) : Bool :=
  match decodeHost c with
  | .ok _ => true
  | .error (.illegalOpcode _) => true
  | .error _ => false

/-- The host's step (R15.1): it offers an operation, which the port holds until SEQ takes it (R21, R292). Where
one is held already the host has no step. -/
def hostStep (c : Command) (s : State) : State :=
  if s.env.hostPort = none ∧ isOperation c = true then
    { s with env := { s.env with hostPort := some c } }
  else s

/-- The peer's step (R15.5): a byte arrives on the UART receive stream. -/
def peerStep (b : Byte) (s : State) : State :=
  { s with env := { s.env with uartRx := s.env.uartRx ++ [b] } }

/-- The device takes a frame off its port: an instruction of R92, or one whose response is any value
(93 U1; log 17). -/
def linkStep (frame : List Byte) (s : State) : Host.Outcome State Fault Refusal :=
  match decodeSpi frame with
  | .ok i => exec i s
  | .error _ => .next (transact frame { s with link := none })

/-- The device's own activity: none where nothing is assumed of the device (R60). -/
def deviceTurn (f : Device → Device) (s : State) : State :=
  if s.dev.law = .any then s else { s with dev := f s.dev }

/-- OPMOD takes the k-th requested mode, with a draw for an open request (R71, 93 U2). -/
def modeTurn (k : Nat) (s : State) : State :=
  let draw := drawByte s.env
  if s.dev.law = .any then s else { s with dev := s.dev.takeMode k draw.1, env := draw.2 }

/-- One agent moves. -/
def turnStep (t : Turn) (s : State) : Host.Outcome State Fault Refusal :=
  match t with
  | .seq => seqStep s
  | .host c => .next (hostStep c s)
  | .peer b => .next (peerStep b s)
  | .urx => .next (urxStep s)
  | .blockReset => .next (blockReset s)
  | .deviceMode k => .next (modeTurn k s)
  | .busFrame named img other => .next (deviceTurn (fun d => d.receive named img other) s)
  | .txDone n named img other => .next (deviceTurn (fun d => d.txDone n named img other) s)

/-- Whose turn it is (log 3): a frame on the device's port comes first, then the environment's choice, which is
free once its list is used up. -/
def agentStep (s : State) : Host.Outcome State Fault Refusal :=
  match s.link with
  | some frame => linkStep frame s
  | none =>
    let draw := drawTurn s.env
    turnStep draw.1 { s with env := draw.2 }

/-- The environment lets SEQ move next. -/
def seqTurnNext (s : State) : State := { s with env := { s.env with turns := .seq :: s.env.turns } }

/-- The state in which an encoding is the instruction the next step fetches: a host operation just accepted
(R22), or a frame on the device's port. -/
def placeEncoding (e : Encoding) (s : State) : State :=
  match e with
  | .host c => seqTurnNext (accept c { s with link := none })
  | .spi frame => { s with link := some frame }

end Sys2Proof.Machine
end

