-- ==== Sys2Proof/Machine/Step.lean ====
section
/-! DEFINITION. The step of the machine, and placing a word of the opcode table where the next step fetches
its instruction. -/

namespace Sys2Proof.Machine

/-- One step of one agent. -/
def step (s : State) : Host.Outcome State Fault Refusal := agentStep s

/-- The word placed so that the next step fetches and runs it (log 2): the host's operation in `op` as R22
leaves it, or the SPI frame on the device's port. `nbits` is 8 for every row of the table. -/
def State.withFetchWord (s : State) (_nbits w : Nat) : State := placeEncoding (tableEncoding w) s

end Sys2Proof.Machine
end

