-- ==== Sys2Proof/Safety.lean ====
section
/-! DEFINITION. The terms claims are stated in: the states an operation leaves behind, written out field by
field from the spec; what a history shows; runs of one operation; and the invariants of the machine. -/

namespace Sys2Proof.Machine

/-! ### Where SEQ stands -/

/-- SEQ is BUSY at a position of its operation (R21, R23). -/
abbrev BusyAt (p : Point) (s : State) : Prop := s.seqState = .busy ∧ s.scratch.point = p

/-- SEQ moves next, and `rest` are the choices after it: nothing stands on the device's port (log 3). -/
abbrev SeqNext (rest : List Turn) (s : State) : Prop := s.link = none ∧ s.env.turns = .seq :: rest

/-- The state once the first of the environment's choices is taken. -/
abbrev turnTaken (rest : List Turn) (s : State) : State := { s with env := { s.env with turns := rest } }

/-- An instruction that is a host operation of R90. -/
def isHostOp (i : Instr) : Bool :=
  match encode i with
  | .host _ => true
  | .spi _ => false

/-- The command the host offers for a host operation. -/
def commandOf (i : Instr) : Option Command :=
  match encode i with
  | .host c => some c
  | .spi _ => none

/-! ### The states operations leave behind -/

/-- The operation has returned `v` (R12, R23): result, position, IDLE and the `Done` event; all else as in
`s`. -/
def afterReturn (i : Instr) (v : Value) (s : State) : State :=
  { s with
    result := .ok v
    step := 0
    seqState := .idle
    history := s.history ++ [.done (.legal i) (.ok v)] }

/-- The operation has raised an error that is not fatal (R12, R251). -/
def afterError (o : Operation) (e : ErrorCode) (info : Byte) (s : State) : State :=
  { s with
    result := .err e info
    step := 0
    seqState := .idle
    history := s.history ++ [.done o (.err e info)] }

/-- The operation has raised a fatal error with this code (R253). -/
def afterFatal (i : Instr) (e : ErrorCode) (code info : Byte) (s : State) : State :=
  { s with
    result := .err e info
    faultCode := code
    step := 0
    seqState := .fault
    history := s.history ++ [.done (.legal i) (.err e info)] }

/-- A SEQ step that ended with `SpiXfer(tx)` at position `p` (R10, R23, R37): the device's part is
`deviceXfer`; all else as in `s`. -/
def afterXfer (tx : List Byte) (p : Point) (s : State) : State :=
  { s with
    step := s.step + 1
    scratch := { s.scratch with rx := some (deviceXfer tx s.dev s.env).rx, point := p }
    dev := (deviceXfer tx s.dev s.env).dev
    env := (deviceXfer tx s.dev s.env).env
    history := s.history ++ [.spi tx (deviceXfer tx s.dev s.env).rx] }

/-- A SEQ step that ended with `emit_uart(l)` at position `p` (R12, R23, R233). -/
def afterEmit (l : List Byte) (p : Point) (s : State) : State :=
  { s with
    step := s.step + 1
    scratch := { s.scratch with point := p }
    uartTx := s.uartTx ++ [l]
    history := s.history ++ [.uartTx l] }

/-- A transaction on the device's port (R10, R37). -/
def afterPort (tx : List Byte) (s : State) : State :=
  { s with
    link := none
    dev := (deviceXfer tx s.dev s.env).dev
    env := (deviceXfer tx s.dev s.env).env
    history := s.history ++ [.spi tx (deviceXfer tx s.dev s.env).rx] }

/-! ### Runs -/

/-- `n` SEQ steps of one operation, as its meaning takes them. -/
def execRun (i : Instr) : Nat → State → Host.Outcome State Fault Refusal
  | 0, s => .next s
  | n + 1, s =>
    match exec i s with
    | .next t => execRun i n t
    | .fault f => .fault f
    | .refused r => .refused r

/-- URX consumes a list of bytes, one step each (R230). -/
def urxFeed : List Byte → State → State
  | [], s => s
  | b :: bs, s => urxFeed bs (urxByte b s)

/-- The SPI frames a history shows, in order (R37). -/
def mosi : List Event → List (List Byte)
  | [] => []
  | .spi tx _ :: es => tx :: mosi es
  | _ :: es => mosi es

/-- The UART units a history shows, in order (R37, R233). -/
def txUnits : List Event → List (List Byte)
  | [] => []
  | .uartTx l :: es => l :: txUnits es
  | _ :: es => txUnits es

/-- The ModeSet calls of the operations (R160, R162, R171): the mode, the error a caller raises on
exhaustion, and that error's code (R250). LISTEN's second call takes the mode from the local `prior`. -/
def modeCallOf (i : Instr) (c : ModeCall) (k : Scratch) : Option (Mode × ErrorCode × Byte) :=
  match i, c with
  | .init _ _ _ _, .first => some (.config, .chipInitFailure, 0x13)
  | .init _ _ m _, .second => some (m, .modeChangeTimeout, 0x12)
  | .setMode m, .first => some (m, .modeChangeTimeout, 0x12)
  | .listen _, .first => some (.config, .modeChangeTimeout, 0x12)
  | .listen _, .second => k.prior.map fun m => (m, .modeChangeTimeout, 0x12)
  | _, _ => none

/-- The frames the block may send (R56, R57, R93, R95, R102): bursts of 1 to MAX_BURST bytes within the register
space, buffer bursts of at most 13 or 8 bytes, no reserved field value. -/
def blockFrame : Instr → Bool
  | .spiInstrReset => true
  | .spiRead addr n => burstOk addr n
  | .spiReadRxBuffer _ m count => bufferBurstOk m count
  | .spiWrite addr data => burstOk addr data.length
  | .spiLoadTxBuffer abc data => decide (abc.toNat ≤ 5) && bufferBurstOk (abc.getLsbD 0) data.length
  | .spiRts t => t != 0
  | .spiReadStatus => true
  | .spiRxStatus => true
  | .spiBitModify addr _ _ => decide (addr.toNat ≤ 0x7F)
  | _ => false

/-- The operations that may write `initialized`, `cur_mode` or `filters_locked` (R20, R35). -/
def writesBeliefs : Instr → Bool
  | .spiReset => true
  | .init _ _ _ _ => true
  | .setMode _ => true
  | .listen _ => true
  | _ => false

/-! ### Invariants -/

/-- `fault_code` is 0 outside FAULT and a fatal code in it (R28, R253). -/
def FaultCodeInv (s : State) : Prop :=
  (s.seqState ≠ .fault → s.faultCode = 0x00) ∧
    (s.seqState = .fault → s.faultCode = 0x10 ∨ s.faultCode = 0x11 ∨ s.faultCode = 0x12 ∨ s.faultCode = 0x13)

/-- Whenever `initialized` is true, `cur_mode` is not UNKNOWN (R153). -/
def ModeKnownInv (s : State) : Prop := s.initialized = true → s.curMode ≠ .unknown

/-- A position inside ModeSet. -/
def inModeSet : Point → Bool
  | .modeWritten _ | .modePolled _ => true
  | _ => false

/-- `attempt` is 1 to MODE_ATTEMPTS while a mode-set procedure runs, and 0 otherwise (R24). -/
def AttemptInv (s : State) : Prop :=
  (s.seqState = .busy ∧ inModeSet s.scratch.point = true → 1 ≤ s.attempt ∧ s.attempt ≤ Config.modeAttempts) ∧
    (¬ (s.seqState = .busy ∧ inModeSet s.scratch.point = true) → s.attempt = 0)

/-- `step` is 0 outside BUSY, and in BUSY exactly at the start of the rule (R22, R23). -/
def StepInv (s : State) : Prop :=
  (s.seqState ≠ .busy → s.step = 0) ∧ (s.seqState = .busy → (s.step = 0 ↔ s.scratch.point = .start))

/-- `rx_fifo` is empty but between POLL_RECEIVE's two buffer reads, where it holds one frame at most (R30). -/
def FifoInv (s : State) : Prop :=
  s.rxFifo.length ≤ 1 ∧
    (s.rxFifo ≠ [] →
      s.seqState = .busy ∧ s.scratch.point = .sent 2 ∧ s.op = commandOf .pollReceive)

/-- URX's counters and sum (R16, R32): in DATA fewer bytes than `u_len` are in, in CKS exactly `u_len`, and
`u_sum` is the sum of what came so far. -/
def UrxInv (u : Urx) : Prop :=
  u.cnt ≤ 255 ∧
    match u.state with
    | .hunt => True
    | .type => True
    | .len => u.sum = u.utype
    | .data =>
      u.cnt < u.len.toNat ∧
        u.sum = BitVec.ofNat 8 (u.utype.toNat + u.len.toNat + byteSum (urxPayload u u.cnt))
    | .cks =>
      u.cnt = u.len.toNat ∧
        u.sum = BitVec.ofNat 8 (u.utype.toNat + u.len.toNat + byteSum (urxPayload u u.cnt))

/-- The local `rx` holds a transaction of `n` bytes. -/
def rxHas (n : Nat) (c : Scratch) : Prop := ∃ l, c.rx = some l ∧ l.length = n

/-- The positions of an operation's rule, and the locals it has written by then (R23, R31). -/
def Ready (cfg : Params) (i : Instr) (c : Scratch) : Prop :=
  c.point = .start ∨
    match i with
    | .uartSend _ _ => c.point = .sent 0
    | .spiReset => c.point = .sent 0
    | .regRead _ n => c.point = .sent 0 ∧ rxHas (2 + n) c
    | .regWrite _ _ => c.point = .sent 0
    | .bitModify _ _ _ => c.point = .sent 0
    | .readStatus => c.point = .sent 0 ∧ rxHas 2 c
    | .rxStatus => c.point = .sent 0 ∧ rxHas 2 c
    | .rts _ => c.point = .sent 0
    | .loadTx _ _ => c.point = .sent 0
    | .readRx _ n => c.point = .sent 0 ∧ rxHas (1 + n) c
    | .init bitrate crystal _ _ =>
      (bitrateLookup cfg.bitrateTable bitrate crystal).isSome = true ∧
        ((∃ k, c.point = .sent k ∧ k ≤ 8) ∨ (∃ m, c.point = .modeWritten m) ∨
          (∃ m, c.point = .modePolled m ∧ rxHas 3 c))
    | .setMode _ => c.point = .modeWritten .first ∨ (c.point = .modePolled .first ∧ rxHas 3 c)
    | .send f =>
      f.wf = true ∧
        ((c.point = .sent 0 ∧ rxHas 2 c) ∨
          ((c.point = .sent 1 ∨ c.point = .sent 2) ∧ c.sel.isSome = true))
    | .pollReceive =>
      (c.point = .sent 0 ∧ rxHas 2 c) ∨ (c.point = .sent 1 ∧ rxHas 14 c ∧ c.st.isSome = true) ∨
        (c.point = .sent 2 ∧ rxHas 14 c)
    | .busState => c.point = .sent 0 ∧ rxHas 3 c
    | .listen fs =>
      c.prior.isSome = true ∧
        (c.point = .sent 0 ∨ ((c.point = .sent 1 ∨ c.point = .sent 2) ∧ fs ≠ .empty) ∨
          (∃ m, c.point = .modeWritten m) ∨ (∃ m, c.point = .modePolled m ∧ rxHas 3 c))
    | _ => False

/-- A BUSY SEQ holds an operation, and stands at a position of its rule with the locals that position
reads (R22, R23, R31). -/
def PositionInv (s : State) : Prop :=
  s.seqState = .busy →
    match s.op with
    | none => False
    | some c =>
      match decodeHost c with
      | .ok i => Ready s.cfg i s.scratch
      | .error _ => s.scratch.point = .start

/-- What stands on the command port and in `op` is an operation (R90, R91): the host offers nothing else. -/
def OffersInv (s : State) : Prop :=
  (∀ c, s.env.hostPort = some c → isOperation c = true) ∧ ∀ c, s.op = some c → isOperation c = true

/-- The invariant of the machine. -/
structure Inv (s : State) : Prop where
  faultCode : FaultCodeInv s
  modeKnown : ModeKnownInv s
  attempt : AttemptInv s
  step : StepInv s
  fifo : FifoInv s
  urx : UrxInv s.urx
  position : PositionInv s
  offers : OffersInv s
  memory : Memory.wf s.dev.regs = true

end Sys2Proof.Machine
end

