-- ==== Sys2Proof/Certificates/Slice0/Obligations.lean ====
section
/-! DEFINITION. The statements for the provers. A state an operation leaves behind is given by the `after`
functions of Sys2Proof/Safety.lean, which write every field that changes from the spec and leave the
others, so that an equation with one of them is the instruction's result and its frame at once. -/

section Statements

open Sys2Proof Sys2Proof.Machine

/-! ### Reset, invariants and the step -/

/-- The reset column of R20 and R32, and STATUS's reset value (R33). -/
def Obligations.ResetLeavesTheSpecifiedValues : Prop :=
  State.reset.seqState = .idle ∧ State.reset.op = none ∧ State.reset.step = 0 ∧
    State.reset.attempt = 0 ∧ State.reset.initialized = false ∧ State.reset.curMode = .unknown ∧
    State.reset.filtersLocked = false ∧ State.reset.faultCode = 0x00 ∧ State.reset.result = .none ∧
    State.reset.rxFifo = [] ∧ State.reset.scratch.st = none ∧ State.reset.scratch.sel = none ∧
    State.reset.scratch.buf = none ∧ State.reset.scratch.prior = none ∧
    State.reset.urx.state = .hunt ∧ State.reset.urx.utype = 0x00 ∧ State.reset.urx.len = 0x00 ∧
    State.reset.urx.cnt = 0 ∧ State.reset.urx.buf = Vector.replicate 255 0x00 ∧
    State.reset.urx.sum = 0x00 ∧ statusWord State.reset = 0x0070

/-- The machine right after reset meets the invariant. -/
def Obligations.InvariantHoldsAtReset : Prop := Inv State.reset

/-- Every step of every agent keeps the invariant: the fault code (R28), R153, `attempt` (R24), `step`
(R22, R23), the FIFO (R30), URX's counters (R32), the locals an operation reads (R31), and the canonical
form of the device's registers. -/
def Obligations.EveryStepKeepsTheInvariant : Prop :=
  ∀ s t : State, Inv s → step s = .next t → Inv t

/-- R31: no operation reads a local it has not written. From a state that meets the invariant every step
answers a next state: it never faults, and it is never refused. -/
def Obligations.NoStepReadsAnUnwrittenLocal : Prop :=
  ∀ s : State, Inv s → ∃ t, step s = .next t

/-- A step runs the decoded instruction: SEQ's operation while BUSY (R23), the device's frame while one is
on its port, and in FAULT the operation on the command port (R254). The choice of turn and the operation are
taken off; that the device's port comes first is the model's choice (log 3, log 9). -/
def Obligations.StepRunsTheDecodedInstruction : Prop :=
  (∀ (s : State) (c : Command) (i : Instr) (rest : List Turn), s.seqState = .busy → SeqNext rest s →
      s.op = some c → decode (.host c) = .ok i → step s = exec i (turnTaken rest s)) ∧
    (∀ (s : State) (frame : List Byte) (i : Instr), s.link = some frame →
      decode (.spi frame) = .ok i → step s = exec i s) ∧
    ∀ (s : State) (c : Command) (i : Instr) (rest : List Turn), s.seqState = .fault → SeqNext rest s →
      s.env.hostPort = some c → decode (.host c) = .ok i →
      step s = exec i { s with env := { s.env with turns := rest, hostPort := none } }

/-- Accepting an operation in IDLE (R22). -/
def Obligations.AcceptingAnOperation : Prop :=
  ∀ (s : State) (c : Command) (rest : List Turn), s.seqState = .idle → SeqNext rest s →
    s.env.hostPort = some c →
    step s = .next
      { s with
        op := some c
        step := 0
        result := .none
        seqState := .busy
        scratch :=
          { st := none, sel := none, buf := none, prior := none, rx := none, point := .start }
        env := { s.env with turns := rest, hostPort := none } }

/-- R15, R21, R256: the host's step puts an operation on a free command port and has no effect on a held one;
the peer's step adds a byte to the receive stream. The host can issue every operation of R90 and every
illegal opcode (R91), and nothing else (log 19; how wide three operands are, log 29); while SEQ is BUSY the port
holds it, whoever moves (R292). That it holds it over a turn of block reset too is the model's choice and no rule's:
R292 says when SEQ accepts, and R280 does not say whether the host's offer outlives the reset (log 3). Once the
environment's choices are used up the next turn is a free value, so that a run from reset has every operation, byte
and interleaving (log 3). -/
def Obligations.HostAndPeerSteps : Prop :=
  (∀ (s : State) (c : Command) (rest : List Turn), s.link = none → s.env.turns = .host c :: rest →
      (s.env.hostPort = none → isOperation c = true →
        step s = .next { s with env := { s.env with turns := rest, hostPort := some c } }) ∧
        (∀ d, s.env.hostPort = some d → step s = .next (turnTaken rest s))) ∧
    (∀ (s : State) (b : Byte) (rest : List Turn), s.link = none → s.env.turns = .peer b :: rest →
      step s = .next { s with env := { s.env with turns := rest, uartRx := s.env.uartRx ++ [b] } }) ∧
    (∀ (s t : State) (c : Command), s.seqState = .busy → s.env.hostPort = some c → step s = .next t →
      t.env.hostPort = some c) ∧
    (∀ s : State, s.link = none → s.env.turns = [] →
      step s =
        turnStep (Config.freeTurn s.env.turnDraws)
          { s with env := { s.env with turnDraws := s.env.turnDraws + 1 } }) ∧
    (∀ i : Instr, isHostOp i = true → ∃ c, commandOf i = some c ∧ isOperation c = true) ∧
    ∀ c : Command, isOperation c = true ↔
      Opcode.ofByte c.opcode = none ∨ ∃ i, isHostOp i = true ∧ commandOf i = some c

/-- R23, R293: a SEQ step in BUSY either ends at one SpiXfer or one emit_uart, with `step` one higher and
that one event, or ends the operation, with `step` 0, its result and its `Done` event. -/
def Obligations.EachStepIsOneAction : Prop :=
  ∀ (s t : State) (rest : List Turn), s.seqState = .busy → SeqNext rest s → step s = .next t →
    (t.seqState = .busy ∧ t.step = s.step + 1 ∧ t.result = s.result ∧
        ((∃ tx rx, t.history = s.history ++ [.spi tx rx] ∧ rx.length = tx.length ∧
            t.uartTx = s.uartTx) ∨
          ∃ l, t.history = s.history ++ [.uartTx l] ∧ t.uartTx = s.uartTx ++ [l])) ∨
      (t.seqState ≠ .busy ∧ t.step = 0 ∧ t.uartTx = s.uartTx ∧
        ∃ o, t.history = s.history ++ [.done o t.result])

/-- R37, R233, R34: no step rewrites the history, the transmit stream is the units the history records, and
no step writes a parameter. -/
def Obligations.HistoryAndStreamOnlyGrow : Prop :=
  ∀ s t : State, step s = .next t →
    t.cfg = s.cfg ∧ ∃ es, t.history = s.history ++ es ∧ t.uartTx = s.uartTx ++ txUnits es

/-- R92, R103: every transaction a step sends from a state that meets the invariant, where it does not come
from outside SEQ, is an instruction of R92 with a burst R56 allows and no reserved field value. -/
def Obligations.SeqSendsOnlyTableInstructions : Prop :=
  ∀ s t : State, Inv s → s.link = none → step s = .next t →
    ∃ es, t.history = s.history ++ es ∧
      ∀ tx rx, Event.spi tx rx ∈ es → ∃ i, decode (.spi tx) = .ok i ∧ blockFrame i = true

/-- Operations leave the registers of the other agents alone (R38, R61.7): URX, the parameters, the peer's
bytes, the command port, the choice of turns, and the operation register itself. -/
def Obligations.OperationsLeaveOtherAgentsAlone : Prop :=
  ∀ (i : Instr) (s t : State), exec i s = .next t →
    t.urx = s.urx ∧ t.cfg = s.cfg ∧ t.op = s.op ∧ t.env.uartRx = s.env.uartRx ∧
      t.env.hostPort = s.env.hostPort ∧ t.env.turns = s.env.turns ∧
      t.env.turnDraws = s.env.turnDraws

/-- R61.7, R232, R256: URX runs beside SEQ. Its turn takes a byte whether SEQ is IDLE, BUSY or FAULT and
writes no register of SEQ and nothing of the device; and a step of an operation and a step of the receiver
can be exchanged, with only the order of their events and units different. -/
def Obligations.ReceiverRunsBesideSeq : Prop :=
  (∀ (s : State) (more : List Turn) (b : Byte) (rest : List Byte), s.link = none →
      s.env.turns = .urx :: more → s.env.uartRx = b :: rest →
      ∃ t, step s = .next t ∧
        t =
          { s with
            urx := t.urx
            uartTx := t.uartTx
            history := t.history
            env := { s.env with turns := more, uartRx := rest } } ∧
        ∃ es, t.history = s.history ++ .uartRx b :: es) ∧
    ∀ (i : Instr) (b : Byte) (s t : State), exec i s = .next t →
      ∃ u, exec i (urxByte b s) = .next u ∧
        { u with history := [], uartTx := [] } = { urxByte b t with history := [], uartTx := [] } ∧
        u.uartTx.Perm (urxByte b t).uartTx ∧ u.history.Perm (urxByte b t).history

/-! ### Errors, FAULT and block reset -/

/-- R91: the opcode bytes that are illegal, and what SEQ does with one. -/
def Obligations.IllegalOpcodes : Prop :=
  (∀ b : Byte, Opcode.ofByte b = none ↔
      b = 0x00 ∨ (0x02 ≤ b ∧ b ≤ 0x0F) ∨ (0x16 ≤ b ∧ b ≤ 0x1F) ∨ (0x24 ≤ b ∧ b ≤ 0x2F) ∨
        (0x39 ≤ b ∧ b ≤ 0x3F) ∨ 0x46 ≤ b) ∧
    ∀ (s : State) (c : Command) (rest : List Turn), s.seqState = .busy → SeqNext rest s →
      s.op = some c → Opcode.ofByte c.opcode = none →
      step s = .next (afterError (.illegal c.opcode) .illegalCommand c.opcode (turnTaken rest s))

/-- R254: in FAULT every operation, an illegal opcode included, completes in one step with
`Err(Faulted, 0)` and writes nothing else. -/
def Obligations.FaultRefusesEveryOperation : Prop :=
  (∀ (i : Instr) (s : State), isHostOp i = true → s.seqState = .fault →
      exec i s = .next
        { s with
          result := .err .faulted 0x00
          history := s.history ++ [.done (.legal i) (.err .faulted 0x00)] }) ∧
    ∀ (s : State) (c : Command) (rest : List Turn), s.seqState = .fault → SeqNext rest s →
      s.env.hostPort = some c →
      let completes (o : Operation) : Prop :=
        step s = .next
          { s with
            env := { s.env with turns := rest, hostPort := none }
            result := .err .faulted 0x00
            history := s.history ++ [.done o (.err .faulted 0x00)] }
      (∀ i : Instr, decode (.host c) = .ok i → completes (.legal i)) ∧
        (Opcode.ofByte c.opcode = none → completes (.illegal c.opcode))

/-- R253: FAULT is sticky. No step but block reset leaves it or changes what it keeps. -/
def Obligations.OnlyBlockResetLeavesFault : Prop :=
  ∀ s t : State, s.seqState = .fault → ¬ (s.link = none ∧ (drawTurn s.env).1 = .blockReset) →
    step s = .next t →
    t.seqState = .fault ∧ t.faultCode = s.faultCode ∧ t.initialized = s.initialized ∧
      t.curMode = s.curMode ∧ t.filtersLocked = s.filtersLocked ∧ t.attempt = s.attempt

/-- R250, R251, R253, R254: the code of every error, and what raising it does: a fatal one enters FAULT with
its code, Faulted writes only the result and leaves SEQ in FAULT, and every other one returns SEQ to IDLE. -/
def Obligations.RaisingAnError : Prop :=
  ∀ (i : Instr) (d : Byte) (s : State),
    (raiseOp i .unsupportedBitrate d s = afterFatal i .unsupportedBitrate 0x10 d s ∧
        raiseOp i .invalidModeCombination d s = afterFatal i .invalidModeCombination 0x11 d s ∧
        raiseOp i .modeChangeTimeout d s = afterFatal i .modeChangeTimeout 0x12 d s ∧
        raiseOp i .chipInitFailure d s = afterFatal i .chipInitFailure 0x13 d s) ∧
      (∀ e, e = .noBufferAvailable ∨ e = .frameCorrupt ∨ e = .idOutOfRange ∨ e = .payloadTooLong ∨
          e = .illegalOperand ∨ e = .illegalCommand ∨ e = .notInitialized ∨ e = .filterLocked →
        raiseOp i e d s = afterError (.legal i) e d s) ∧
      (isHostOp i = true → s.seqState = .fault →
        exec i s = .next (completeFaulted (.legal i) s) ∧
          completeFaulted (.legal i) s =
            { s with
              result := .err .faulted 0x00
              history := s.history ++ [.done (.legal i) (.err .faulted 0x00)] }) ∧
      errorCode .noBufferAvailable = 0x01 ∧ errorCode .frameCorrupt = 0x02 ∧
      errorCode .idOutOfRange = 0x03 ∧ errorCode .payloadTooLong = 0x04 ∧
      errorCode .illegalOperand = 0x05 ∧ errorCode .illegalCommand = 0x06 ∧
      errorCode .notInitialized = 0x07 ∧ errorCode .filterLocked = 0x08 ∧ errorCode .faulted = 0x09

/-- R280: block reset, from any state. The device, the parameters and the streams are not the block's
registers and stay. That the command port keeps an operation not yet accepted, and the receive stream its bytes, is
the model's choice (log 3). -/
def Obligations.BlockReset : Prop :=
  ∀ (s : State) (rest : List Turn), s.link = none → s.env.turns = .blockReset :: rest →
    step s = .next
      { s with
        seqState := .idle
        op := none
        step := 0
        attempt := 0
        initialized := false
        curMode := .unknown
        filtersLocked := false
        faultCode := 0x00
        result := .none
        rxFifo := []
        scratch :=
          { st := none, sel := none, buf := none, prior := none, rx := none, point := .start }
        urx :=
          { state := .hunt, utype := 0x00, len := 0x00, cnt := 0,
            buf := Vector.replicate 255 0x00, sum := 0x00 }
        env := { s.env with turns := rest }
        history := s.history ++ [.reset] }

/-- R33, R120: the fields of STATUS, as a function of the registers; GET_STATUS returns the word as it was
while SEQ was IDLE, and writes only `result`. -/
def Obligations.StatusWordFields : Prop :=
  statusWord State.reset = 0x0070 ∧ ∀ s : State,
    (statusWord s).getLsbD 0 = decide (s.seqState = .busy) ∧
      (statusWord s).getLsbD 1 = decide (s.seqState = .fault) ∧
      (statusWord s).getLsbD 2 = s.initialized ∧
      (statusWord s).getLsbD 3 = s.filtersLocked ∧
      (statusWord s).extractLsb' 4 3 =
        (match s.curMode with
          | .known .normal => 0b000#3
          | .known .loopback => 0b010#3
          | .known .listenOnly => 0b011#3
          | .known .config => 0b100#3
          | .unknown => 0b111#3) ∧
      (statusWord s).getLsbD 7 = false ∧
      (statusWord s).extractLsb' 8 8 = s.faultCode ∧
      (BusyAt .start s →
        exec .getStatus s =
          .next (afterReturn .getStatus (.status (statusWord { s with seqState := .idle })) s))

/-! ### The codec operations -/

/-- R190, R192, R194, R195, R197, R198, R201: the codec operations complete in one step, write only
`result`, and return what their rules give or raise their errors, PayloadTooLong before IdOutOfRange
(R250, R255). An extended identifier always fits: the operand's type is below 2^29 (log 24). -/
def Obligations.CodecOperations : Prop :=
  ∀ s : State, BusyAt .start s →
    (∀ (id : Id) (ext : Bool), fitsWidth id ext = true →
        exec (.encId id ext) s =
          .next (afterReturn (.encId id ext) (.bytes (idBytes (encIdImage id ext))) s)) ∧
      (∀ img : IdImage,
        exec (.decId img) s =
          .next (afterReturn (.decId img) (.ident (decIdValue img) (img.sidl.getLsbD 3)) s)) ∧
      (∀ (n : Byte) (rtr : Bool), n.toNat ≤ 8 →
        exec (.encDlc n rtr) s =
          .next (afterReturn (.encDlc n rtr) (.byte ((if rtr then 0x40 else 0x00) ||| n)) s)) ∧
      (∀ b : Byte,
        exec (.decDlc b) s =
          .next (afterReturn (.decDlc b) (.dlc (min (b &&& 0x0F).toNat 8) (b.getLsbD 6)) s)) ∧
      (∀ f : CanFrame, f.wf = true →
        exec (.encFrame f) s =
          .next (afterReturn (.encFrame f)
            (.bytes (idBytes (encIdImage f.id f.ext) ++
              [(if f.rtr then 0x40 else 0x00) ||| BitVec.ofNat 8 f.data.length] ++ f.data)) s)) ∧
      (∀ img : BufferImage,
        exec (.decFrame img) s =
          .next (afterReturn (.decFrame img)
            (.frame
              { id := decIdValue img.ident
                ext := img.ident.sidl.getLsbD 3
                rtr :=
                  if img.ident.sidl.getLsbD 3 = false ∧ s.cfg.rtrSource = .sidl4 then
                    img.ident.sidl.getLsbD 4
                  else img.dlc.getLsbD 6
                data :=
                  [img.d0, img.d1, img.d2, img.d3, img.d4, img.d5, img.d6, img.d7].take
                    (min (img.dlc &&& 0x0F).toNat 8) }) s)) ∧
      (∀ id : Id, 2 ^ 11 ≤ id.toNat →
        exec (.encId id false) s = .next (afterError (.legal (.encId id false)) .idOutOfRange 0x00 s)) ∧
      (∀ (n : Byte) (rtr : Bool), 8 < n.toNat →
        exec (.encDlc n rtr) s = .next (afterError (.legal (.encDlc n rtr)) .payloadTooLong n s)) ∧
      (∀ f : CanFrame, 8 < f.data.length →
        exec (.encFrame f) s =
          .next (afterError (.legal (.encFrame f)) .payloadTooLong
            (BitVec.ofNat 8 (min f.data.length 255)) s)) ∧
      ∀ f : CanFrame, f.data.length ≤ 8 → f.ext = false → 2 ^ 11 ≤ f.id.toNat →
        exec (.encFrame f) s = .next (afterError (.legal (.encFrame f)) .idOutOfRange 0x00 s)

/-- R97, R98, R192: every bit of the identifier image and of the DLC byte that the block writes, and the
identifier that DecId reads from any image. -/
def Obligations.ImageBits : Prop :=
  (∀ (id : Id) (ext : Bool), fitsWidth id ext = true →
      let img := encIdImage id ext
      let s := if ext then 21 else 3
      (∀ k, k < 8 → img.sidh.getLsbD k = id.getLsbD (s + k)) ∧
        (∀ k, k < 3 → img.sidl.getLsbD (5 + k) = id.getLsbD (s - 3 + k)) ∧
        img.sidl.getLsbD 4 = false ∧ img.sidl.getLsbD 3 = ext ∧ img.sidl.getLsbD 2 = false ∧
        (∀ k, k < 2 → img.sidl.getLsbD k = (ext && id.getLsbD (16 + k))) ∧
        (∀ k, k < 8 → img.eid8.getLsbD k = (ext && id.getLsbD (8 + k))) ∧
        ∀ k, k < 8 → img.eid0.getLsbD k = (ext && id.getLsbD k)) ∧
    (∀ (n : Nat) (rtr : Bool), n ≤ 8 →
      (encDlcByte n rtr &&& 0x0F).toNat = n ∧ (encDlcByte n rtr).getLsbD 6 = rtr ∧
        (encDlcByte n rtr).getLsbD 7 = false ∧ (encDlcByte n rtr).getLsbD 5 = false ∧
        (encDlcByte n rtr).getLsbD 4 = false) ∧
    ∀ img : IdImage,
      (decIdValue img).toNat =
        if img.sidl.getLsbD 3 then
          img.sidh.toNat * 2 ^ 21 + img.sidl.toNat / 2 ^ 5 * 2 ^ 18 + img.sidl.toNat % 4 * 2 ^ 16 +
            img.eid8.toNat * 2 ^ 8 + img.eid0.toNat
        else img.sidh.toNat * 2 ^ 3 + img.sidl.toNat / 2 ^ 5

/-- R193: the three round-trip properties of identifiers. -/
def Obligations.IdentifierRoundTrips : Prop :=
  (∀ (id : Id) (ext : Bool), fitsWidth id ext = true →
      decIdValue (encIdImage id ext) = id ∧ decExt (encIdImage id ext) = ext) ∧
    (∀ img : IdImage, encIdImage (decIdValue img) (decExt img) = img ↔
      img.sidl.getLsbD 4 = false ∧ img.sidl.getLsbD 2 = false ∧
        (img.sidl.getLsbD 3 = false →
          img.sidl.getLsbD 1 = false ∧ img.sidl.getLsbD 0 = false ∧ img.eid8 = 0x00 ∧
            img.eid0 = 0x00)) ∧
    (∀ (a b : Id) (x y : Bool), fitsWidth a x = true → fitsWidth b y = true →
      encIdImage a x = encIdImage b y → a = b ∧ x = y) ∧
    ∀ n : Id, (encIdImage n false).sidl.getLsbD 3 ≠ (encIdImage n true).sidl.getLsbD 3

/-- R198: DecFrame always returns a well-formed CanFrame. R199: the round trip of a frame through the buffer
image, with any padding, under either value of RX_STD_RTR_SOURCE; and of a canonical image. The image's direction is stated where DecFrame reads the
remote flag from the DLC byte, since R199.3 does not say what holds of a standard image under SIDL4. -/
def Obligations.FrameRoundTrips : Prop :=
  (∀ (src : RtrSource) (img : BufferImage),
      (decFrameImage src img).wf = true ∧
        (decFrameImage src img).data.length = min (img.dlc &&& 0x0F).toNat 8) ∧
    (∀ (f : CanFrame) (pad : List Byte), f.wf = true → pad.length = 8 - f.data.length →
      ∃ img, imageOfBytes (encFrameBytes f ++ pad) = some img ∧ decFrameImage .dlc6 img = f ∧
        (f.ext = true ∨ f.rtr = false → decFrameImage .sidl4 img = f)) ∧
    ∀ (img : BufferImage) (src : RtrSource), idCanonical img.ident = true →
      img.dlc.getLsbD 7 = false → img.dlc.getLsbD 5 = false → img.dlc.getLsbD 4 = false →
      (img.dlc &&& 0x0F).toNat ≤ 8 → src = .dlc6 ∨ img.ident.sidl.getLsbD 3 = true →
      encFrameBytes (decFrameImage src img) = (imageBytes img).take (5 + (img.dlc &&& 0x0F).toNat)

/-! ### UART operations and the receiver -/

/-- R220, R221, R222: UART_CKS, UART_BUILD and UART_SEND, their results, UART_SEND's one unit, and their
PayloadTooLong. -/
def Obligations.UartOperations : Prop :=
  ∀ (type : Byte) (p : List Byte) (s : State),
    let cks : Byte := BitVec.ofNat 8 (type.toNat + p.length + byteSum p) ^^^ 0xFF
    let frame : List Byte := [0x2E, type, BitVec.ofNat 8 p.length] ++ p ++ [cks]
    (p.length ≤ 255 → BusyAt .start s →
        exec (.uartCks type p) s = .next (afterReturn (.uartCks type p) (.byte cks) s) ∧
          exec (.uartBuild type p) s = .next (afterReturn (.uartBuild type p) (.bytes frame) s) ∧
          exec (.uartSend type p) s = .next (afterEmit frame (.sent 0) s)) ∧
      (BusyAt (.sent 0) s →
        exec (.uartSend type p) s = .next (afterReturn (.uartSend type p) .unit s)) ∧
      (255 < p.length → BusyAt .start s →
        exec (.uartCks type p) s =
            .next (afterError (.legal (.uartCks type p)) .payloadTooLong 0xFF s) ∧
          exec (.uartBuild type p) s =
            .next (afterError (.legal (.uartBuild type p)) .payloadTooLong 0xFF s) ∧
          exec (.uartSend type p) s =
            .next (afterError (.legal (.uartSend type p)) .payloadTooLong 0xFF s))

/-- R223: UART_PARSE's four reasons in their order, and its result. -/
def Obligations.UartParseReasons : Prop :=
  ∀ (l : List Byte) (s : State), BusyAt .start s →
    let n := (l.getD 2 0).toNat
    let cks := uartCksByte (l.getD 1 0) ((l.drop 3).take n)
    let fails (reason : Byte) : Prop :=
      exec (.uartParse l) s = .next (afterError (.legal (.uartParse l)) .frameCorrupt reason s)
    (l.length < 4 → fails 1) ∧
      (4 ≤ l.length → l.getD 0 0 ≠ 0x2E → fails 2) ∧
      (4 ≤ l.length → l.getD 0 0 = 0x2E → l.length ≠ 4 + n → fails 3) ∧
      (4 ≤ l.length → l.getD 0 0 = 0x2E → l.length = 4 + n → l.getD (3 + n) 0 ≠ cks → fails 4) ∧
      (4 ≤ l.length → l.getD 0 0 = 0x2E → l.length = 4 + n → l.getD (3 + n) 0 = cks →
        exec (.uartParse l) s =
          .next (afterReturn (.uartParse l) (.uart (l.getD 1 0) ((l.drop 3).take n)) s))

/-- R100, R221, R223: Parse accepts exactly the frames Build makes, and gives back what they carry. -/
def Obligations.ParseInvertsBuild : Prop :=
  ∀ (l : List Byte) (type : Byte) (p : List Byte),
    uartParseBytes l = .ok (type, p) ↔ p.length ≤ 255 ∧ l = uartFrameBytes type p

/-- R224: UART_PARSE reports every single-byte corruption of a valid frame, with the reason R224 gives; two
changed bytes can cancel. -/
def Obligations.SingleByteCorruptionIsDetected : Prop :=
  (∀ (type : Byte) (p : List Byte) (k : Nat) (b : Byte) (s : State), BusyAt .start s →
      p.length ≤ 255 → k < 4 + p.length → b ≠ (uartFrameBytes type p).getD k 0 →
      let bad := (uartFrameBytes type p).set k b
      exec (.uartParse bad) s =
        .next (afterError (.legal (.uartParse bad)) .frameCorrupt
          (if k = 0 then 2 else if k = 2 then 3 else 4) s)) ∧
    ∃ (type : Byte) (p q : List Byte), p ≠ q ∧
      uartParseBytes (((uartFrameBytes type p).set 3 (q.getD 0 0)).set 4 (q.getD 1 0)) = .ok (type, q)

/-- R230: URX's transition function, case by case, with the `UartRx` event; in CKS R231's delivery of the byte after
that event, and HUNT; nothing where no byte is present. A byte past the end of `u_buf`, which no run from reset
writes, is dropped (log 23). -/
def Obligations.ReceiverTransitions : Prop :=
  ∀ (s : State) (b : Byte),
    let u := s.urx
    let goes (v : Urx) : Prop :=
      urxByte b s = { s with urx := v, history := s.history ++ [.uartRx b] }
    (u.state = .hunt → b = 0x2E → goes { u with state := .type }) ∧
      (u.state = .hunt → b ≠ 0x2E → goes u) ∧
      (u.state = .type → goes { u with utype := b, sum := b, state := .len }) ∧
      (u.state = .len → b = 0x00 →
        goes { u with len := b, sum := u.sum + b, cnt := 0, state := .cks }) ∧
      (u.state = .len → b ≠ 0x00 →
        goes { u with len := b, sum := u.sum + b, cnt := 0, state := .data }) ∧
      (u.state = .data → u.cnt + 1 = u.len.toNat →
        goes
          { u with
            buf := u.buf.setIfInBounds u.cnt b, sum := u.sum + b, cnt := u.cnt + 1, state := .cks }) ∧
      (u.state = .data → u.cnt + 1 ≠ u.len.toNat →
        goes { u with buf := u.buf.setIfInBounds u.cnt b, sum := u.sum + b, cnt := u.cnt + 1 }) ∧
      (u.state = .cks →
        urxByte b s =
          { deliver b { s with history := s.history ++ [.uartRx b] } with
            urx := { u with state := .hunt } }) ∧
      (s.env.uartRx = [] → urxStep s = s) ∧
      ∀ rest, s.env.uartRx = b :: rest →
        urxStep s = urxByte b { s with env := { s.env with uartRx := rest } }

/-- R230, R231: from HUNT, URX takes a whole frame of any type and any payload with any checksum byte; it
delivers or drops it by UART_CHECKSUM_ENFORCE, acknowledges it by UART_ACK_POLICY, and writes nothing else
but its own registers. -/
def Obligations.ReceiverTakesAFrame : Prop :=
  ∀ (s : State) (type c : Byte) (p : List Byte), s.urx.state = .hunt → p.length ≤ 255 →
    let len : Byte := BitVec.ofNat 8 p.length
    let frame : List Byte := [0x2E, type, len] ++ p ++ [c]
    let good := decide (c = uartCksByte type p)
    let delivered := good || !s.cfg.checksumEnforce
    let acked :=
      if delivered then decide (s.cfg.ackPolicy ≠ .never) else decide (s.cfg.ackPolicy = .everyFrame)
    let t := urxFeed frame s
    t = { s with urx := t.urx, uartTx := t.uartTx, history := t.history } ∧
      t.urx.state = .hunt ∧ t.urx.utype = type ∧ t.urx.len = len ∧ t.urx.cnt = p.length ∧
      urxPayload t.urx t.urx.cnt = p ∧
      t.uartTx = s.uartTx ++ (if acked then [[0xFF]] else []) ∧
      t.history =
        s.history ++ frame.map Event.uartRx ++
          [if delivered then .uartFrame type p good
            else .uartCorrupt type len c (uartCksByte type p)] ++
          (if acked then [.uartTx [0xFF]] else [])

/-! ### SPI primitives -/

/-- R121, R123, R124, R127, R128: the primitives that return nothing send their one frame and then return
unit; SPI_RESET also clears the three beliefs first. -/
def Obligations.WritePrimitivesComplete : Prop :=
  ∀ s : State, BusyAt .start s →
    let runs (i : Instr) (tx : List Byte) (s0 : State) : Prop :=
      exec i s = .next (afterXfer tx (.sent 0) s0) ∧
        exec i (afterXfer tx (.sent 0) s0) = .next (afterReturn i .unit (afterXfer tx (.sent 0) s0))
    runs .spiReset [0xC0]
        { s with initialized := false, curMode := .unknown, filtersLocked := false } ∧
      (∀ (addr : Byte) (data : List Byte), 1 ≤ data.length → data.length ≤ 16 →
        addr.toNat + data.length ≤ 0x80 → runs (.regWrite addr data) ([0x02, addr] ++ data) s) ∧
      (∀ addr mask data : Byte, addr.toNat ≤ 0x7F →
        runs (.bitModify addr mask data) [0x05, addr, mask, data] s) ∧
      (∀ t : Byte, 1 ≤ t.toNat → t.toNat ≤ 7 → runs (.rts t) [0x80 ||| t] s) ∧
      ∀ (sel : Byte) (data : List Byte), sel.toNat ≤ 5 → 1 ≤ data.length →
        data.length ≤ (if sel.getLsbD 0 then 8 else 13) →
        runs (.loadTx sel data) ([0x40 ||| sel] ++ data) s

/-- R122, R125, R126, R129: the primitives that read send their one frame and then return the bytes that
came in after the instruction's own. -/
def Obligations.ReadPrimitivesComplete : Prop :=
  ∀ s : State, BusyAt .start s →
    let runs (i : Instr) (tx : List Byte) (value : List Byte → Value) : Prop :=
      exec i s = .next (afterXfer tx (.sent 0) s) ∧
        exec i (afterXfer tx (.sent 0) s) =
          .next (afterReturn i (value (deviceXfer tx s.dev s.env).rx) (afterXfer tx (.sent 0) s))
    (∀ (addr : Byte) (n : Nat), 1 ≤ n → n ≤ 16 → addr.toNat + n ≤ 0x80 →
        runs (.regRead addr n) ([0x03, addr] ++ List.replicate n 0x00) fun rx => .bytes (rx.drop 2)) ∧
      runs .readStatus [0xA0, 0x00] (fun rx => .byte (rx.getD 1 0)) ∧
      runs .rxStatus [0xB0, 0x00] (fun rx => .byte (rx.getD 1 0)) ∧
      ∀ (sel : Byte) (n : Nat), sel.toNat ≤ 3 → 1 ≤ n → n ≤ (if sel.getLsbD 0 then 8 else 13) →
        runs (.readRx sel n) ([0x90 ||| (sel <<< 1)] ++ List.replicate n 0x00) fun rx =>
          .bytes (rx.drop 1)

/-- R102, R122 to R124, R127 to R129: an operand outside its domain is IllegalOperand, before any
transaction. -/
def Obligations.PrimitiveOperandErrors : Prop :=
  ∀ s : State, BusyAt .start s →
    let fails (i : Instr) : Prop := exec i s = .next (afterError (.legal i) .illegalOperand 0x00 s)
    (∀ (addr : Byte) (n : Nat), 0x7F < addr.toNat ∨ n = 0 ∨ 16 < n ∨ 0x80 < addr.toNat + n →
        fails (.regRead addr n)) ∧
      (∀ (addr : Byte) (data : List Byte),
        0x7F < addr.toNat ∨ data = [] ∨ 16 < data.length ∨ 0x80 < addr.toNat + data.length →
        fails (.regWrite addr data)) ∧
      (∀ addr mask data : Byte, 0x7F < addr.toNat → fails (.bitModify addr mask data)) ∧
      (∀ t : Byte, t.toNat = 0 ∨ 7 < t.toNat → fails (.rts t)) ∧
      (∀ (sel : Byte) (data : List Byte),
        5 < sel.toNat ∨ data = [] ∨ (if sel.getLsbD 0 then 8 else 13) < data.length →
        fails (.loadTx sel data)) ∧
      ∀ (sel : Byte) (n : Nat),
        3 < sel.toNat ∨ n = 0 ∨ (if sel.getLsbD 0 then 8 else 13) < n → fails (.readRx sel n)

/-- R130, R35: apart from SPI_RESET, INIT, SET_MODE and LISTEN, no instruction writes `initialized`,
`cur_mode`, `filters_locked` or `attempt`. -/
def Obligations.OtherInstructionsKeepBeliefs : Prop :=
  ∀ (i : Instr) (s t : State), writesBeliefs i = false → exec i s = .next t →
    t.initialized = s.initialized ∧ t.curMode = s.curMode ∧ t.filtersLocked = s.filtersLocked ∧
      t.attempt = s.attempt

/-! ### Composite operations -/

/-- R152, R255 steps 3 to 5: the composite operations' operand checks come first (PayloadTooLong before
IdOutOfRange), then NotInitialized, then FilterLocked, all before any transaction. -/
def Obligations.CompositeAdmission : Prop :=
  ∀ s : State, BusyAt .start s →
    (∀ f : CanFrame, 8 < f.data.length →
        exec (.send f) s =
          .next (afterError (.legal (.send f)) .payloadTooLong
            (BitVec.ofNat 8 (min f.data.length 255)) s)) ∧
      (∀ f : CanFrame, f.data.length ≤ 8 → f.ext = false → 2 ^ 11 ≤ f.id.toNat →
        exec (.send f) s = .next (afterError (.legal (.send f)) .idOutOfRange 0x00 s)) ∧
      (∀ (r : FilterRecord) (x : IdSpec), x ∈ r.specs → x.ext = false → 2 ^ 11 ≤ x.value.toNat →
        exec (.listen (.full r)) s =
          .next (afterError (.legal (.listen (.full r))) .idOutOfRange 0x00 s)) ∧
      (s.initialized = false →
        let fails (i : Instr) : Prop := exec i s = .next (afterError (.legal i) .notInitialized 0x00 s)
        (∀ m : Mode, fails (.setMode m)) ∧ (∀ f : CanFrame, f.wf = true → fails (.send f)) ∧
          fails .pollReceive ∧ fails .busState ∧ ∀ fs : FilterSet, fs.wf = true → fails (.listen fs)) ∧
      ∀ fs : FilterSet, fs.wf = true → s.initialized = true → s.filtersLocked = true →
        exec (.listen fs) s = .next (afterError (.legal (.listen fs)) .filterLocked 0x00 s)

/-- R160, R161: INIT's checks, in their order, and its first transaction. -/
def Obligations.InitChecks : Prop :=
  ∀ (bitrate crystal : Nat) (mode : Mode) (silent : Bool) (s : State), BusyAt .start s →
    let i := Instr.init bitrate crystal mode silent
    let entry := bitrateLookup s.cfg.bitrateTable bitrate crystal
    (mode = .config → exec i s = .next (afterError (.legal i) .illegalOperand 0x00 s)) ∧
      (mode ≠ .config → entry = none →
        exec i s = .next (afterFatal i .unsupportedBitrate 0x10 0x00 s)) ∧
      (entry ≠ none → mode = .loopback → silent = false →
        exec i s = .next (afterFatal i .invalidModeCombination 0x11 0x00 s)) ∧
      (entry ≠ none → mode ≠ .config → ¬ (mode = .loopback ∧ silent = false) →
        exec i s = .next (afterXfer [0xC0] (.sent 0)
          { s with initialized := false, curMode := .unknown, filtersLocked := false }))

/-- R150: ModeSet's two frames for each mode, and its start and its polls in INIT, SET_MODE and LISTEN. -/
def Obligations.ModeSetWritesAndPolls : Prop :=
  modeWriteFrame .normal = [0x05, 0x0F, 0xE0, 0x00] ∧
    modeWriteFrame .loopback = [0x05, 0x0F, 0xE0, 0x40] ∧
    modeWriteFrame .listenOnly = [0x05, 0x0F, 0xE0, 0x60] ∧
    modeWriteFrame .config = [0x05, 0x0F, 0xE0, 0x80] ∧
    (∀ (i : Instr) (c : ModeCall) (s : State), BusyAt (.modeWritten c) s →
      modeCallOf i c s.scratch ≠ none →
      exec i s = .next (afterXfer [0x03, 0x0E, 0x00] (.modePolled c) s)) ∧
    (∀ (m : Mode) (s : State), BusyAt .start s → s.initialized = true →
      exec (.setMode m) s =
        .next (afterXfer (modeWriteFrame m) (.modeWritten .first) { s with attempt := 1 })) ∧
    (∀ (b x : Nat) (m : Mode) (q : Bool) (s : State), BusyAt (.sent 0) s →
      exec (.init b x m q) s =
        .next (afterXfer [0x05, 0x0F, 0xE0, 0x80] (.modeWritten .first) { s with attempt := 1 })) ∧
    ∀ (b x : Nat) (m : Mode) (q : Bool) (s : State), BusyAt (.sent 8) s →
      exec (.init b x m q) s =
        .next (afterXfer (modeWriteFrame m) (.modeWritten .second) { s with attempt := 1 })

/-- R150, R151: after a poll that does not confirm the mode, the draw of AttemptExpired decides: poll
again, begin the next attempt with the mode bits written again, or after the fifth raise the caller's fatal
error with the mode's code. -/
def Obligations.ModeSetUnconfirmed : Prop :=
  ∀ (i : Instr) (c : ModeCall) (m : Mode) (e : ErrorCode) (code canstat : Byte) (expired : Bool)
    (env : Env) (s : State), BusyAt (.modePolled c) s →
    modeCallOf i c s.scratch = some (m, e, code) → rxByte s 2 = some canstat →
    canstat.extractLsb' 5 3 ≠ modeCode m → drawExpiry s.env = (expired, env) →
    (expired = false →
        exec i s = .next (afterXfer [0x03, 0x0E, 0x00] (.modePolled c) { s with env := env })) ∧
      (expired = true → s.attempt < 5 →
        exec i s =
          .next (afterXfer (modeWriteFrame m) (.modeWritten c)
            { s with env := env, attempt := s.attempt + 1 })) ∧
      (expired = true → 5 ≤ s.attempt →
        exec i s =
          .next (afterFatal i e code ((modeCode m).setWidth 8) { s with env := env, attempt := 0 }))

/-- R160: from configuration mode confirmed, INIT sends the eight writes of its rule in order, then begins
its second ModeSet; of SEQ only `step`, `attempt`, `cur_mode` and the locals `rx` and `point` change. -/
def Obligations.InitProgramsTheChip : Prop :=
  ∀ (bitrate crystal : Nat) (mode : Mode) (silent : Bool) (e : BitrateEntry) (canstat : Byte)
    (s : State), BusyAt (.modePolled .first) s →
    bitrateLookup s.cfg.bitrateTable bitrate crystal = some e → rxByte s 2 = some canstat →
    canstat.extractLsb' 5 3 = 0b100#3 →
    let i := Instr.init bitrate crystal mode silent
    exec i s =
        .next (afterXfer [0x02, 0x28, e.cnf3, e.cnf2, e.cnf1] (.sent 1)
          { s with attempt := 0, curMode := .known .config }) ∧
      ∃ t, execRun i 9 s = .next t ∧ BusyAt (.modeWritten .second) t ∧ t.attempt = 1 ∧
        t.step = s.step + 9 ∧ t.curMode = .known .config ∧ t.initialized = s.initialized ∧
        t.filtersLocked = s.filtersLocked ∧ t.result = s.result ∧ t.rxFifo = s.rxFifo ∧
        t.op = s.op ∧ t.faultCode = s.faultCode ∧ t.scratch.st = s.scratch.st ∧
        t.scratch.sel = s.scratch.sel ∧ t.scratch.buf = s.scratch.buf ∧
        t.scratch.prior = s.scratch.prior ∧ t.urx = s.urx ∧ t.uartTx = s.uartTx ∧ t.cfg = s.cfg ∧
        mosi t.history =
          mosi s.history ++
            [[0x02, 0x28, e.cnf3, e.cnf2, e.cnf1], [0x02, 0x30, 0x00], [0x02, 0x40, 0x00],
              [0x02, 0x50, 0x00], [0x02, 0x60, 0x00], [0x02, 0x70, 0x00], [0x02, 0x2B, 0x03],
              [0x05, 0x60, 0x04, 0x04], modeWriteFrame mode]

/-- R150, R160, R162: the poll that shows the requested mode in CANSTAT bits 7:5, whatever its other bits,
completes SET_MODE, and in its second ModeSet INIT. -/
def Obligations.ModeSetConfirmed : Prop :=
  ∀ (mode : Mode) (canstat : Byte) (s : State), rxByte s 2 = some canstat →
    canstat.extractLsb' 5 3 = modeCode mode →
    (BusyAt (.modePolled .first) s →
        exec (.setMode mode) s =
          .next (afterReturn (.setMode mode) .unit { s with attempt := 0, curMode := .known mode })) ∧
      ∀ (bitrate crystal : Nat) (silent : Bool), BusyAt (.modePolled .second) s →
        exec (.init bitrate crystal mode silent) s =
          .next (afterReturn (.init bitrate crystal mode silent) .unit
            { s with attempt := 0, curMode := .known mode, initialized := true })

/-- R160 under the premise that the device is the simulator of R71: INIT runs to `Ok(unit)` in 14 steps
with its 13 transactions, and leaves the device programmed, whatever state the device was in. -/
def Obligations.InitOnTheSimulator : Prop :=
  ∀ (bitrate crystal : Nat) (mode : Mode) (silent : Bool) (e : BitrateEntry) (s : State),
    BusyAt .start s → s.dev.law = .simulator →
    bitrateLookup s.cfg.bitrateTable bitrate crystal = some e → mode ≠ .config →
    ¬ (mode = .loopback ∧ silent = false) →
    let i := Instr.init bitrate crystal mode silent
    ∃ t, execRun i 14 s = .next t ∧ t.seqState = .idle ∧ t.result = .ok .unit ∧
      t.initialized = true ∧ t.curMode = .known mode ∧ t.filtersLocked = false ∧ t.attempt = 0 ∧
      mosi t.history =
        mosi s.history ++
          [[0xC0], [0x05, 0x0F, 0xE0, 0x80], [0x03, 0x0E, 0x00],
            [0x02, 0x28, e.cnf3, e.cnf2, e.cnf1], [0x02, 0x30, 0x00], [0x02, 0x40, 0x00],
            [0x02, 0x50, 0x00], [0x02, 0x60, 0x00], [0x02, 0x70, 0x00], [0x02, 0x2B, 0x03],
            [0x05, 0x60, 0x04, 0x04], modeWriteFrame mode, [0x03, 0x0E, 0x00]] ∧
      t.dev.read 0x28 = e.cnf3 &&& 0xC7 ∧ t.dev.read 0x29 = e.cnf2 ∧ t.dev.read 0x2A = e.cnf1 ∧
      t.dev.read 0x2B = 0x03 ∧ t.dev.read 0x30 = 0x00 ∧ t.dev.read 0x40 = 0x00 ∧
      t.dev.read 0x50 = 0x00 ∧ t.dev.read 0x60 = 0x04 ∧ t.dev.read 0x70 = 0x00 ∧
      t.dev.read 0x0E = modeBits mode ∧ t.dev.read 0x0F = 0x07 ||| modeBits mode

/-- R164, R165: SEND's steps. The first buffer whose TXREQ bit (2, 4, 6) is clear in the status byte is
loaded from its SIDH and requested; with none, NoBufferAvailable carries the byte. -/
def Obligations.SendSteps : Prop :=
  ∀ (f : CanFrame) (s : State),
    (BusyAt .start s → s.initialized = true → f.wf = true →
        exec (.send f) s = .next (afterXfer [0xA0, 0x00] (.sent 0) s)) ∧
      (∀ st : Byte, BusyAt (.sent 0) s → rxByte s 1 = some st →
        let loads (sel : Fin Config.nTxBuf) (sidh : Byte) : Prop :=
          exec (.send f) s =
            .next (afterXfer ([0x02, sidh] ++ encFrameBytes f) (.sent 1)
              { s with scratch := { s.scratch with st := some st, sel := some sel } })
        (st.getLsbD 2 = false → loads 0 0x31) ∧
          (st.getLsbD 2 = true → st.getLsbD 4 = false → loads 1 0x41) ∧
          (st.getLsbD 2 = true → st.getLsbD 4 = true → st.getLsbD 6 = false → loads 2 0x51) ∧
          (st.getLsbD 2 = true → st.getLsbD 4 = true → st.getLsbD 6 = true →
            exec (.send f) s =
              .next (afterError (.legal (.send f)) .noBufferAvailable st
                { s with scratch := { s.scratch with st := some st } }))) ∧
      (∀ sel : Fin Config.nTxBuf, BusyAt (.sent 1) s → s.scratch.sel = some sel →
        exec (.send f) s = .next (afterXfer [0x80 ||| BitVec.ofNat 8 (2 ^ sel.val)] (.sent 2) s)) ∧
      ∀ sel : Fin Config.nTxBuf, BusyAt (.sent 2) s → s.scratch.sel = some sel →
        exec (.send f) s = .next (afterReturn (.send f) (.index sel.val) s)

/-- R164, R294: a whole SEND, whatever the device answers. The status byte is the second byte of the first
transaction; with a free buffer three transactions and `Ok(sel)`, with none one transaction. -/
def Obligations.SendRuns : Prop :=
  ∀ (f : CanFrame) (s : State), BusyAt .start s → s.initialized = true → f.wf = true →
    let st := (deviceXfer [0xA0, 0x00] s.dev s.env).rx.getD 1 0
    (∀ sel : Nat, sel < 3 → (∀ k, k < sel → st.getLsbD (2 + 2 * k) = true) →
        st.getLsbD (2 + 2 * sel) = false →
        ∃ t, execRun (.send f) 4 s = .next t ∧ t.seqState = .idle ∧ t.step = 0 ∧
          t.result = .ok (.index sel) ∧ t.initialized = true ∧ t.curMode = s.curMode ∧
          t.filtersLocked = s.filtersLocked ∧ t.attempt = s.attempt ∧ t.rxFifo = s.rxFifo ∧
          t.uartTx = s.uartTx ∧ t.urx = s.urx ∧ t.op = s.op ∧ t.faultCode = s.faultCode ∧
          t.cfg = s.cfg ∧
          mosi t.history =
            mosi s.history ++
              [[0xA0, 0x00], [0x02, BitVec.ofNat 8 (0x31 + 0x10 * sel)] ++ encFrameBytes f,
                [BitVec.ofNat 8 (0x80 + 2 ^ sel)]]) ∧
      ((∀ k, k < 3 → st.getLsbD (2 + 2 * k) = true) →
        ∃ t, execRun (.send f) 2 s = .next t ∧ t.seqState = .idle ∧ t.step = 0 ∧
          t.result = .err .noBufferAvailable st ∧ t.initialized = true ∧ t.curMode = s.curMode ∧
          t.filtersLocked = s.filtersLocked ∧
          t.attempt = s.attempt ∧ t.rxFifo = s.rxFifo ∧ t.uartTx = s.uartTx ∧ t.urx = s.urx ∧
          t.op = s.op ∧ t.faultCode = s.faultCode ∧ t.cfg = s.cfg ∧
          mosi t.history = mosi s.history ++ [[0xA0, 0x00]])

/-- R166: POLL_RECEIVE's steps: the status byte is read once, RXB0 before RXB1, each flagged buffer's image
is decoded into the FIFO, and the FIFO is drained into the result. -/
def Obligations.PollReceiveSteps : Prop :=
  ∀ s : State,
    let drained (t : State) : State :=
      afterReturn .pollReceive (.frames t.rxFifo) { t with rxFifo := [] }
    let second (st : Byte) (t : State) : State :=
      if st.getLsbD 1 then afterXfer ([0x94] ++ List.replicate 13 0x00) (.sent 2) t else drained t
    let pushed (img : BufferImage) : State :=
      { s with
        rxFifo := s.rxFifo ++ [decFrameImage s.cfg.rtrSource img]
        scratch := { s.scratch with buf := some (imageBytes img) } }
    (BusyAt .start s → s.initialized = true →
        exec .pollReceive s = .next (afterXfer [0xA0, 0x00] (.sent 0) s)) ∧
      (∀ st : Byte, BusyAt (.sent 0) s → rxByte s 1 = some st →
        let s1 := { s with scratch := { s.scratch with st := some st } }
        exec .pollReceive s =
          .next
            (if st.getLsbD 0 then afterXfer ([0x90] ++ List.replicate 13 0x00) (.sent 1) s1
              else second st s1)) ∧
      (∀ (x st : Byte) (img : BufferImage), BusyAt (.sent 1) s →
        s.scratch.rx = some (x :: imageBytes img) → s.scratch.st = some st →
        exec .pollReceive s = .next (second st (pushed img))) ∧
      ∀ (x : Byte) (img : BufferImage), BusyAt (.sent 2) s →
        s.scratch.rx = some (x :: imageBytes img) →
        exec .pollReceive s = .next (drained (pushed img))

/-- R166, R61.6: a whole POLL_RECEIVE over a device of which nothing is assumed, for each of the four
values of the status byte's two low bits. The environment's bytes are the premise. -/
def Obligations.PollReceiveReturnsTheFrames : Prop :=
  ∀ (x st y0 y1 : Byte) (img0 img1 : BufferImage) (rest : List Byte) (s : State),
    BusyAt .start s → s.initialized = true → s.rxFifo = [] → s.dev.law = .any →
    let read0 : List Byte := [0x90] ++ List.replicate 13 0x00
    let read1 : List Byte := [0x94] ++ List.replicate 13 0x00
    let f0 := decFrameImage s.cfg.rtrSource img0
    let f1 := decFrameImage s.cfg.rtrSource img1
    let ends (n : Nat) (frames : List CanFrame) (reads : List (List Byte)) : Prop :=
      ∃ t, execRun .pollReceive n s = .next t ∧ t.seqState = .idle ∧
        t.result = .ok (.frames frames) ∧ t.rxFifo = [] ∧ t.env.miso = rest ∧
        t.initialized = true ∧ t.curMode = s.curMode ∧ t.filtersLocked = s.filtersLocked ∧
        mosi t.history = mosi s.history ++ [[0xA0, 0x00]] ++ reads
    (st.getLsbD 0 = false → st.getLsbD 1 = false → s.env.miso = [x, st] ++ rest → ends 2 [] []) ∧
      (st.getLsbD 0 = true → st.getLsbD 1 = false →
        s.env.miso = [x, st] ++ (y0 :: imageBytes img0) ++ rest → ends 3 [f0] [read0]) ∧
      (st.getLsbD 0 = false → st.getLsbD 1 = true →
        s.env.miso = [x, st] ++ (y1 :: imageBytes img1) ++ rest → ends 3 [f1] [read1]) ∧
      (st.getLsbD 0 = true → st.getLsbD 1 = true →
        s.env.miso = [x, st] ++ (y0 :: imageBytes img0) ++ (y1 :: imageBytes img1) ++ rest →
        ends 4 [f0, f1] [read0, read1])

/-- R168: BUS_STATE reads EFLG and returns the most severe state its bits show. -/
def Obligations.BusStateCompletes : Prop :=
  ∀ s : State,
    (BusyAt .start s → s.initialized = true →
        exec .busState s = .next (afterXfer [0x03, 0x2D, 0x00] (.sent 0) s)) ∧
      ∀ e : Byte, BusyAt (.sent 0) s → rxByte s 2 = some e →
        let returns (b : BusState) : Prop :=
          exec .busState s = .next (afterReturn .busState (.bus b) s)
        (e.getLsbD 5 = true → returns .busOff) ∧
          (e.getLsbD 5 = false → (e.getLsbD 4 || e.getLsbD 3) = true → returns .errorPassive) ∧
          (e.getLsbD 5 = false → (e.getLsbD 4 || e.getLsbD 3) = false →
            (e.getLsbD 2 || e.getLsbD 1 || e.getLsbD 0) = true → returns .errorWarning) ∧
          (e.getLsbD 5 = false → (e.getLsbD 4 || e.getLsbD 3) = false →
            (e.getLsbD 2 || e.getLsbD 1 || e.getLsbD 0) = false → returns .errorActive)

/-- R171: LISTEN's steps: `prior` is saved, the chip is cycled to configuration mode, the masks and then
the filters are written (only the masks, all zero, for the empty set), `prior` is restored, and FLOCK is
set at the end. -/
def Obligations.ListenSteps : Prop :=
  ∀ (fs : FilterSet) (s : State),
    let i := Instr.listen fs
    let images (l : List IdSpec) : List Byte := l.flatMap fun x => idBytes (encIdImage x.value x.ext)
    (BusyAt .start s → fs.wf = true → s.initialized = true → s.filtersLocked = false →
        exec i s =
          .next (afterXfer [0x05, 0x0F, 0xE0, 0x80] (.modeWritten .first)
            { s with
              attempt := 1
              scratch := { s.scratch with prior := curModeKnown s.curMode } })) ∧
      (∀ canstat : Byte, BusyAt (.modePolled .first) s → rxByte s 2 = some canstat →
        canstat.extractLsb' 5 3 = 0b100#3 →
        exec i s =
          .next (afterXfer
            ([0x02, 0x20] ++
              (match fs with
                | .empty => List.replicate 8 0x00
                | .full r => images [r.mask0, r.mask1])) (.sent 0)
            { s with attempt := 0, curMode := .known .config })) ∧
      (∀ r : FilterRecord, fs = .full r → BusyAt (.sent 0) s →
        exec i s =
          .next (afterXfer ([0x02, 0x00] ++ images [r.filt0, r.filt1, r.filt2]) (.sent 1) s)) ∧
      (∀ r : FilterRecord, fs = .full r → BusyAt (.sent 1) s →
        exec i s =
          .next (afterXfer ([0x02, 0x10] ++ images [r.filt3, r.filt4, r.filt5]) (.sent 2) s)) ∧
      (∀ m : Mode, s.scratch.prior = some m →
        (fs = .empty ∧ BusyAt (.sent 0) s) ∨ (fs ≠ .empty ∧ BusyAt (.sent 2) s) →
        exec i s =
          .next (afterXfer (modeWriteFrame m) (.modeWritten .second) { s with attempt := 1 })) ∧
      ∀ (m : Mode) (canstat : Byte), s.scratch.prior = some m → BusyAt (.modePolled .second) s →
        rxByte s 2 = some canstat → canstat.extractLsb' 5 3 = modeCode m →
        exec i s =
          .next (afterReturn i .unit
            { s with attempt := 0, curMode := .known m, filtersLocked := true })

/-- R171, R74 under the premise that the device is the simulator of R71: LISTEN completes in 6 steps (empty
set) or 8, restores the prior mode, and leaves the masks and filters on the device; after an empty set
every frame matches every filter. That a mask's SIDL reads with bits 4:2 as 0 and a filter's with bits 4 and 2,
where P4 of spec/95_test_vectors.md lists RXM1 as EB, is the model's reading (log 13). -/
def Obligations.ListenOnTheSimulator : Prop :=
  ∀ (fs : FilterSet) (m : Mode) (s : State), BusyAt .start s → s.dev.law = .simulator →
    fs.wf = true → s.initialized = true → s.filtersLocked = false → s.curMode = .known m →
    ∃ t, execRun (.listen fs) (if fs = .empty then 6 else 8) s = .next t ∧ t.seqState = .idle ∧
      t.result = .ok .unit ∧ t.filtersLocked = true ∧ t.initialized = true ∧
      t.curMode = .known m ∧ t.attempt = 0 ∧ t.dev.opmod = modeCode m ∧
      match fs with
      | .empty =>
        t.dev.readBurst 0x20 8 = List.replicate 8 0x00 ∧
          t.dev.readBurst 0x00 12 = s.dev.readBurst 0x00 12 ∧
          t.dev.readBurst 0x10 12 = s.dev.readBurst 0x10 12 ∧
          ∀ (filt : Fin Config.nFilt) (img : IdImage), t.dev.matchesFilter filt img = true
      | .full r =>
        let image (sidlBits : Byte) (x : IdSpec) : List Byte :=
          let g := encIdImage x.value x.ext
          [g.sidh, g.sidl &&& sidlBits, g.eid8, g.eid0]
        t.dev.readBurst 0x20 8 = image 0xE3 r.mask0 ++ image 0xE3 r.mask1 ∧
          t.dev.readBurst 0x00 12 = image 0xEB r.filt0 ++ image 0xEB r.filt1 ++ image 0xEB r.filt2 ∧
          t.dev.readBurst 0x10 12 = image 0xEB r.filt3 ++ image 0xEB r.filt4 ++ image 0xEB r.filt5

/-- R151: an operation ends. From any BUSY state that meets the invariant, with SEQ moving at every step,
if AttemptExpired draws true ten times more among the draws the environment has fixed (the fairness premise
of R151: each of at most two ModeSets ends by its fifth expired attempt), SEQ leaves BUSY. -/
def Obligations.OperationsTerminate : Prop :=
  ∀ s : State, Inv s → s.seqState = .busy → s.link = none → 10 ≤ s.env.expiry.count true →
    ∃ k : Nat, ∀ more : List Turn, ∃ t : State,
      Sys2Proof.core.run k (turnTaken (List.replicate k .seq ++ more) s) = .next t ∧ t.seqState ≠ .busy

/-! ### The device's port and the reference device -/

/-- R92, R57, R10: each SPI instruction completes on the device's port, in one transaction with the frame
R92 gives it; and where nothing is assumed of the device (R60), a transaction brings in the environment's
next bytes, as many as it sends, whatever was written before, and the device's data play no part. -/
def Obligations.SpiInstructionsComplete : Prop :=
  (∀ s : State,
      exec .spiInstrReset s = .next (afterPort [0xC0] s) ∧
        (∀ (a : Byte) (n : Nat),
          exec (.spiRead a n) s = .next (afterPort ([0x03, a] ++ List.replicate n 0x00) s)) ∧
        (∀ (n m : Bool) (k : Nat),
          exec (.spiReadRxBuffer n m k) s =
            .next (afterPort
              ([0x90 ||| (if n then 0x04 else 0x00) ||| (if m then 0x02 else 0x00)] ++
                List.replicate k 0x00) s)) ∧
        (∀ (a : Byte) (d : List Byte),
          exec (.spiWrite a d) s = .next (afterPort ([0x02, a] ++ d) s)) ∧
        (∀ (abc : BitVec 3) (d : List Byte),
          exec (.spiLoadTxBuffer abc d) s = .next (afterPort ([0x40 ||| abc.setWidth 8] ++ d) s)) ∧
        (∀ t : BitVec 3, exec (.spiRts t) s = .next (afterPort [0x80 ||| t.setWidth 8] s)) ∧
        exec .spiReadStatus s = .next (afterPort [0xA0, 0x00] s) ∧
        exec .spiRxStatus s = .next (afterPort [0xB0, 0x00] s) ∧
        ∀ a m d : Byte, exec (.spiBitModify a m d) s = .next (afterPort [0x05, a, m, d] s)) ∧
    ∀ (tx rx rest : List Byte) (d : Device) (e : Env), d.law = .any → rx.length = tx.length →
      e.miso = rx ++ rest → deviceXfer tx d e = ⟨rx, d, { e with miso := rest }⟩

/-- R59, R71, R72, R94, R96, R126 under the premise of the reference device: READ, READ STATUS and RX STATUS
change nothing at the device and bring in what it holds, a READ of any length within the register space; READ
RX BUFFER clears the buffer's flag and nothing else. The RX STATUS byte has the full flags in bits 7:6 and, where
exactly one message waits, its type in bits 4:3 and its filter in bits 2:0; that a frame in RXB1 which hit
RXF0 or RXF1 is shown as rollover, that the type is read as R198 reads the device's flags, and that the other
bits are drawn, is the model's reading (log 15). That every byte of one burst is what the device holds at one moment
is the model's choice against the moments R58 leaves free (log 28). -/
def Obligations.ReferenceReads : Prop :=
  ∀ s t : State, s.dev.law = .reference →
    let hasType (st : Byte) (sidl dlc : Nat) : Prop :=
      st.getLsbD 4 = s.dev.bit sidl 3 ∧
        st.getLsbD 3 = if s.dev.bit sidl 3 then s.dev.bit dlc 6 else s.dev.bit sidl 4
    let filter1 := (s.dev.read 0x70).extractLsb' 0 3
    (∀ (a : Byte) (n : Nat), a.toNat + n ≤ 0x80 → exec (.spiRead a n) s = .next t →
        t.dev = s.dev ∧
          ∃ tx x y, t.history = s.history ++ [.spi tx ([x, y] ++ s.dev.readBurst a.toNat n)]) ∧
      (exec .spiReadStatus s = .next t →
        t.dev = s.dev ∧ ∃ tx x st, t.history = s.history ++ [.spi tx [x, st]] ∧
          st.getLsbD 0 = s.dev.bit 0x2C 0 ∧ st.getLsbD 1 = s.dev.bit 0x2C 1 ∧
          st.getLsbD 2 = s.dev.bit 0x30 3 ∧ st.getLsbD 3 = s.dev.bit 0x2C 2 ∧
          st.getLsbD 4 = s.dev.bit 0x40 3 ∧ st.getLsbD 5 = s.dev.bit 0x2C 3 ∧
          st.getLsbD 6 = s.dev.bit 0x50 3 ∧ st.getLsbD 7 = s.dev.bit 0x2C 4) ∧
      (exec .spiRxStatus s = .next t →
        t.dev = s.dev ∧ ∃ tx x st, t.history = s.history ++ [.spi tx [x, st]] ∧
          st.getLsbD 6 = s.dev.bit 0x2C 0 ∧ st.getLsbD 7 = s.dev.bit 0x2C 1 ∧
          (s.dev.bit 0x2C 0 = true → s.dev.bit 0x2C 1 = false →
            hasType st 0x62 0x65 ∧
              st.extractLsb' 0 3 = if s.dev.bit 0x60 0 then 0b001#3 else 0b000#3) ∧
          (s.dev.bit 0x2C 0 = false → s.dev.bit 0x2C 1 = true →
            hasType st 0x72 0x75 ∧
              st.extractLsb' 0 3 =
                if filter1 = 0b000#3 then 0b110#3
                else if filter1 = 0b001#3 then 0b111#3 else filter1)) ∧
      ∀ (n m : Bool) (k : Nat),
        let start := (if n then 0x71 else 0x61) + if m then 5 else 0
        start + k ≤ 0x80 → exec (.spiReadRxBuffer n m k) s = .next t →
        (∃ tx x, t.history = s.history ++ [.spi tx ([x] ++ s.dev.readBurst start k)]) ∧
          t.dev.bit 0x2C (if n then 1 else 0) = false ∧
          (∀ j, j < 8 → j ≠ (if n then 1 else 0) → t.dev.bit 0x2C j = s.dev.bit 0x2C j) ∧
          t.dev.modeReqs = s.dev.modeReqs ∧ ∀ a, canonAddr a ≠ 0x2C → t.dev.read a = s.dev.read a

/-- R56, R63, R66, R71, R74, R96 under the premise of the reference device: after a WRITE of any length within
the register space each data byte has reached the register at its address, as that register's access lets it
(RW registers take it, read-only bits ignore it, EFLG's bits 7:6 are cleared by 0, filters and masks take it only in
configuration mode); where the burst reaches a register twice through its mirrors (R67) the last byte counts. Every
byte that reaches CANCTRL requests a mode, OPMOD stays, and so does every register outside the burst. How
unimplemented bits read, and that requests add up, is the model's reading (logs 13 and 14). -/
def Obligations.ReferenceWrite : Prop :=
  ∀ (s t : State) (addr : Byte) (data : List Byte), s.dev.law = .reference →
    addr.toNat + data.length ≤ 0x80 → exec (.spiWrite addr data) s = .next t →
    (∀ (j : Nat) (b : Byte) (k : RegKind), data[j]? = some b →
        (∀ j', j < j' → j' < data.length → canonAddr (addr.toNat + j') ≠ canonAddr (addr.toNat + j)) →
        regKind (addr.toNat + j) = some k →
        let old := s.dev.read (addr.toNat + j)
        let new := t.dev.read (addr.toNat + j)
        (k ∈ [.canctrl, .bfpctrl, .cnf1, .cnf2, .cnf3, .caninte, .canintf, .txbSidl, .txbDlc, .txbByte] →
            new = b &&& implMask k) ∧
          (k ∈ [.canstat, .tecCtr, .recCtr, .rxbSidl, .rxbDlc, .rxbByte] → new = old) ∧
          (k = .eflg → new = old &&& (b ||| 0x3F)) ∧
          (k = .txbCtrl → new = (old &&& 0x70) ||| (b &&& 0x0B)) ∧
          (k = .rxb0Ctrl → new = (old &&& 0x0B) ||| (b &&& 0x64)) ∧
          (k = .rxb1Ctrl → new = (old &&& 0x0F) ||| (b &&& 0x60)) ∧
          (k = .txrtsctrl → new = (old &&& 0x38) ||| (b &&& 0x07)) ∧
          (k ∈ [.filtSidl, .filtByte, .maskSidl, .maskByte] →
            new = if s.dev.opmod = 0b100#3 then b &&& implMask k else old)) ∧
      (∀ a, (∀ j, j < data.length → canonAddr (addr.toNat + j) ≠ canonAddr a) →
        t.dev.read a = s.dev.read a) ∧
      t.dev.opmod = s.dev.opmod ∧
      t.dev.modeReqs =
        s.dev.modeReqs ++
          ((data.zipIdx.filter fun p => canonAddr (addr.toNat + p.2) = 0x0F).map fun p =>
            p.1.extractLsb' 5 3)

/-- R71, R93, R96 under the premise of the reference device: LOAD TX BUFFER puts the bytes, as many as it has
within the register space, from the buffer's SIDH or D0 upward, and leaves every register outside alone. Within
the buffer that is said of every byte; past its D7 the burst goes on as a WRITE does. -/
def Obligations.ReferenceLoadTx : Prop :=
  ∀ (s t : State) (abc : BitVec 3) (data : List Byte), s.dev.law = .reference →
    abc.toNat ≤ 5 → exec (.spiLoadTxBuffer abc data) s = .next t →
    let start := 0x31 + 0x10 * (abc.toNat / 2) + if abc.getLsbD 0 then 5 else 0
    (data.length ≤ (if abc.getLsbD 0 then 8 else 13) →
        (∀ (k : Nat) (b : Byte), data[k]? = some b →
          t.dev.read (start + k) = b &&& implBits (start + k)) ∧
          ∀ a, (∀ k, k < data.length → canonAddr a ≠ start + k) → t.dev.read a = s.dev.read a) ∧
      (start + data.length ≤ 0x80 →
        ∃ u, exec (.spiWrite (BitVec.ofNat 8 start) data) s = .next u ∧ u.dev = t.dev)

/-- R63, R66, R71, R74, R124 under the premise of the reference device: BIT MODIFY of every kind of register. A
register that supports it takes the masked bits that its access lets through; one that does not takes the
whole byte, filters and masks only in configuration mode; a read-only register keeps its value. A BIT MODIFY of
CANCTRL whose mask has a bit of REQOP, as ModeSet's has, requests the mode REQOP then holds, and OPMOD stays; no other
register changes. With mask 0x00 nothing changes at a register that supports it, and the transaction is sent (R124).
How unimplemented bits read, that requests add up, and that a mask with no bit of REQOP requests nothing, is the
model's reading (logs 13 and 14). -/
def Obligations.ReferenceBitModify : Prop :=
  ∀ (s t : State) (addr mask data : Byte) (k : RegKind), s.dev.law = .reference →
    regKind addr.toNat = some k → exec (.spiBitModify addr mask data) s = .next t →
    let old := s.dev.read addr.toNat
    let new := t.dev.read addr.toNat
    let takes (m : Byte) : Byte := (old &&& ~~~ (mask &&& m)) ||| (data &&& mask &&& m)
    (k ∈ [.canctrl, .bfpctrl, .cnf1, .cnf2, .cnf3, .caninte, .canintf] →
        new = ((old &&& ~~~ mask) ||| (data &&& mask)) &&& implMask k) ∧
      (k = .txbCtrl → new = takes 0x0B) ∧ (k = .rxb0Ctrl → new = takes 0x64) ∧
      (k = .rxb1Ctrl → new = takes 0x60) ∧ (k = .txrtsctrl → new = takes 0x07) ∧
      (k = .eflg → new = old &&& (data ||| ~~~ mask ||| 0x3F)) ∧
      (k ∈ [.txbSidl, .txbDlc, .txbByte] → new = data &&& implMask k) ∧
      (k ∈ [.filtSidl, .filtByte, .maskSidl, .maskByte] →
        new = if s.dev.opmod = 0b100#3 then data &&& implMask k else old) ∧
      (k ∈ [.canstat, .tecCtr, .recCtr, .rxbSidl, .rxbDlc, .rxbByte] → new = old) ∧
      t.dev.opmod = s.dev.opmod ∧
      t.dev.modeReqs =
        s.dev.modeReqs ++
          (if k = .canctrl ∧ mask &&& 0xE0 ≠ 0x00 then [new.extractLsb' 5 3] else []) ∧
      (mask = 0x00 →
        k ∈ [.bfpctrl, .txrtsctrl, .canctrl, .cnf1, .cnf2, .cnf3, .caninte, .canintf, .eflg, .txbCtrl,
            .rxb0Ctrl, .rxb1Ctrl] →
        t.dev.modeReqs = s.dev.modeReqs ∧ ∀ a, t.dev.read a = s.dev.read a) ∧
      (∃ rx, t.history = s.history ++ [.spi [0x05, addr, mask, data] rx]) ∧
      ∀ a, canonAddr a ≠ canonAddr addr.toNat → t.dev.read a = s.dev.read a

/-- R71, R95, R70 under the premise of the reference device: RTS sets TXREQ of each selected buffer and
nothing else; RESET gives every register that R70 names its reset value. That a mode requested before the RESET
is not taken after it is the model's choice (log 14). -/
def Obligations.ReferenceRtsAndReset : Prop :=
  ∀ s t : State, s.dev.law = .reference →
    (∀ k : BitVec 3, exec (.spiRts k) s = .next t →
        t.dev.read 0x30 = s.dev.read 0x30 ||| (if k.getLsbD 0 then 0x08 else 0x00) ∧
          t.dev.read 0x40 = s.dev.read 0x40 ||| (if k.getLsbD 1 then 0x08 else 0x00) ∧
          t.dev.read 0x50 = s.dev.read 0x50 ||| (if k.getLsbD 2 then 0x08 else 0x00) ∧
          t.dev.modeReqs = s.dev.modeReqs ∧
          ∀ a, canonAddr a ≠ 0x30 → canonAddr a ≠ 0x40 → canonAddr a ≠ 0x50 →
            t.dev.read a = s.dev.read a) ∧
      (exec .spiInstrReset s = .next t →
        t.dev.read 0x0F = 0x87 ∧ t.dev.read 0x0E = 0x80 ∧ t.dev.modeReqs = [] ∧
          ∀ a, a ∈ [0x0C, 0x0D, 0x1C, 0x1D, 0x28, 0x29, 0x2A, 0x2B, 0x2C, 0x2D, 0x30, 0x40, 0x50,
              0x60, 0x70] → t.dev.read a = 0x00)

/-- R71, R59: a request for a mode changes OPMOD only later. A WRITE of CANCTRL leaves OPMOD and records the
request beside those not taken yet; a later turn of the device takes any one of them, enters that mode of R69, and
changes nothing else. The simulator takes the last before its next transaction. That an earlier request stays open
to be taken is the model's choice (log 14). -/
def Obligations.ModeChangeIsDelayed : Prop :=
  (∀ (s t : State) (b : Byte), s.dev.law = .reference → exec (.spiWrite 0x0F [b]) s = .next t →
      t.dev.opmod = s.dev.opmod ∧ t.dev.modeReqs = s.dev.modeReqs ++ [b.extractLsb' 5 3]) ∧
    (∀ (s t : State) (more : List Turn) (k : Nat) (m : Mode), s.dev.law ≠ .any → s.link = none →
      s.env.turns = .deviceMode k :: more → s.dev.modeReqs[k]? = some (modeCode m) → step s = .next t →
      t.dev.opmod = modeCode m ∧ t.dev.modeReqs = s.dev.modeReqs.eraseIdx k ∧
        (∀ a, canonAddr a ≠ 0x0E → t.dev.read a = s.dev.read a) ∧
        t.dev.read 0x0E &&& 0x1F = s.dev.read 0x0E &&& 0x1F ∧ t.history = s.history) ∧
    ∀ (s t : State) (m : Mode), s.dev.law = .simulator →
      s.dev.modeReqs.getLast? = some (modeCode m) → exec .spiReadStatus s = .next t →
      t.dev.opmod = modeCode m ∧ t.dev.modeReqs = []

/-- R66, R73, R74, R287 under the premise of a device law. A filter matches a frame exactly if every identifier
bit with a mask bit of 1 agrees, the 11 bits of a standard frame or all 29; where a buffer's RXM bits are 00 its filters
accept exactly the matching frames. A frame that RXF0 or RXF1 accepts enters RXB0 if it is empty, and RXB1 by
rollover only while RXB0 is full; one that only RXB1's filters accept enters RXB1; with no empty buffer it is lost with an
overflow flag; one that no filter accepts changes nothing. The model's choice (log 16): that a frame which RXF2 to
RXF5 alone accept enters RXB1 with rollover on and RXB0 empty too, for R287 says "only while RXB0 is full" of rollover as
the model reads it, with the filters R74 gives RXB1; that frames are received in every mode; that the filter's EXIDE
is not compared; which filters accept where RXM is not 00; which overflow flag is set where both buffers are full;
where a frame goes that both buffers' filters accept while RXB0 is full with rollover off; which of several filters
FILHIT names; and that RXRTR, BUKT1 and the registers no rule names stay. -/
def Obligations.ReferenceBusSide : Prop :=
  ∀ (d : Device) (named : Fin Config.nFilt) (img : BufferImage) (other : Bool),
    let t := d.receive named img other
    let acceptedFor (n : Nat) (f : Fin Config.nFilt) : Prop :=
      (f.val < 2 ↔ n = 0) ∧ d.accepts named f img.ident = true
    let fills (n : Nat) (f : Fin Config.nFilt) : Prop :=
      t.bit 0x2C n = true ∧
        t.readBurst (0x61 + 0x10 * n) 13 =
          [img.ident.sidh, img.ident.sidl &&& 0xFB, img.ident.eid8, img.ident.eid0, img.dlc &&& 0x7F,
            img.d0, img.d1, img.d2, img.d3, img.d4, img.d5, img.d6, img.d7] ∧
        (n = 0 → t.read 0x60 = (d.read 0x60 &&& 0xFE) ||| BitVec.ofNat 8 f.val) ∧
        (n = 1 → t.read 0x70 = (d.read 0x70 &&& 0xF8) ||| BitVec.ofNat 8 f.val) ∧
        (∀ k, k < 8 → k ≠ n → t.bit 0x2C k = d.bit 0x2C k) ∧
        ∀ a, canonAddr a ≠ 0x2C → (∀ k, k < 14 → canonAddr a ≠ 0x60 + 0x10 * n + k) →
          t.read a = d.read a
    let loses (n : Nat) : Prop :=
      t.read 0x2D = d.read 0x2D ||| BitVec.twoPow 8 (6 + n) ∧
        ∀ a, canonAddr a ≠ 0x2D → t.read a = d.read a
    let takes0 : Prop := ∃ f, acceptedFor 0 f
    let takes1 : Prop := ∃ f, acceptedFor 1 f
    (∀ (f : Fin Config.nFilt) (g : IdImage),
        let filter : Nat := [0x00, 0x04, 0x08, 0x10, 0x14, 0x18].getD f.val 0
        let mask : Nat := if f.val < 2 then 0x20 else 0x24
        let agree (off k : Nat) (b : Byte) : Prop :=
          d.bit (mask + off) k = true → b.getLsbD k = d.bit (filter + off) k
        (d.matchesFilter f g = true ↔
          (∀ k, k < 8 → agree 0 k g.sidh) ∧ (∀ k, k < 8 → 5 ≤ k → agree 1 k g.sidl) ∧
            (g.sidl.getLsbD 3 = true →
              (∀ k, k < 2 → agree 1 k g.sidl) ∧ (∀ k, k < 8 → agree 2 k g.eid8) ∧
                ∀ k, k < 8 → agree 3 k g.eid0)) ∧
          (d.read (if f.val < 2 then 0x60 else 0x70) &&& 0x60 = 0x00 →
            d.accepts named f g = d.matchesFilter f g)) ∧
      (¬ takes0 → ¬ takes1 → t = d) ∧
      (takes0 → d.bit 0x2C 0 = false → ∃ f, acceptedFor 0 f ∧ fills 0 f) ∧
      (takes0 → d.bit 0x2C 0 = true → d.bit 0x60 2 = true → d.bit 0x2C 1 = false →
        ∃ f, acceptedFor 0 f ∧ fills 1 f) ∧
      (takes0 → d.bit 0x2C 0 = true → d.bit 0x60 2 = true → d.bit 0x2C 1 = true →
        loses 0 ∨ loses 1) ∧
      (takes0 → ¬ takes1 → d.bit 0x2C 0 = true → d.bit 0x60 2 = false → loses 0) ∧
      (takes0 → takes1 → d.bit 0x2C 0 = true → d.bit 0x60 2 = false →
        loses 0 ∨ (d.bit 0x2C 1 = false ∧ ∃ f, acceptedFor 1 f ∧ fills 1 f) ∨
          (d.bit 0x2C 1 = true ∧ loses 1)) ∧
      (¬ takes0 → takes1 → d.bit 0x2C 1 = false → ∃ f, acceptedFor 1 f ∧ fills 1 f) ∧
      (¬ takes0 → takes1 → d.bit 0x2C 1 = true → loses 1)

/-- R73, R289, R164, R60: a frame on the bus and a completed transmission are steps of the device, without effect
where nothing is assumed of it. A requested transmission completes, with TXREQ cleared and TXnIF set, unless the
device is in listen-only or configuration mode or in bus-off, where the buffer stays pending. In loopback mode the
device also receives the frame: its identifier, type, length and data bytes are the transmitted ones. The model's
choice (log 16): that it may complete in sleep mode and under the codes 101, 110 and 111; that every other register
stays, ABTF, MLOA, TXERR and ICOD among them; that ABAT, OSM, TXP, BnRTSM and CNF1 to CNF3 have no part in it; and
that the received bits no rule gives are the environment's. -/
def Obligations.TransmissionsAndBusTurns : Prop :=
  (∀ (s : State) (named : Fin Config.nFilt) (img : BufferImage) (other : Bool) (rest : List Turn),
      s.link = none → s.env.turns = .busFrame named img other :: rest →
      step s = .next
        { turnTaken rest s with
          dev := if s.dev.law = .any then s.dev else s.dev.receive named img other }) ∧
    (∀ (s : State) (n : Fin Config.nTxBuf) (named : Fin Config.nFilt) (img : BufferImage) (other : Bool)
      (rest : List Turn), s.link = none → s.env.turns = .txDone n named img other :: rest →
      step s = .next
        { turnTaken rest s with
          dev := if s.dev.law = .any then s.dev else s.dev.txDone n named img other }) ∧
    ∀ (d : Device) (n : Fin Config.nTxBuf) (named : Fin Config.nFilt) (img : BufferImage) (other : Bool),
      let base := 0x30 + 0x10 * n.val
      let t := d.txDone n named img other
      let completed (u : Device) : Prop :=
        u.read base = d.read base &&& 0xF7 ∧ u.read 0x2C = d.read 0x2C ||| BitVec.twoPow 8 (2 + n.val) ∧
          ∀ a, canonAddr a ≠ base → canonAddr a ≠ 0x2C → u.read a = d.read a
      let pending : Prop :=
        d.bit base 3 = false ∨ d.opmod = 0b011#3 ∨ d.opmod = 0b100#3 ∨ d.bit 0x2D 5 = true
      (pending → t = d) ∧
        (¬ pending → d.opmod ≠ 0b010#3 → completed t) ∧
        (¬ pending → d.opmod = 0b010#3 →
          ∃ (u : Device) (own : BufferImage), completed u ∧ t = u.receive named own other ∧
            let ext := d.bit (base + 2) 3
            let rtr := d.bit (base + 5) 6
            decExt own.ident = ext ∧
              decIdValue own.ident =
                decIdValue
                  ⟨d.read (base + 1), d.read (base + 2), d.read (base + 3), d.read (base + 4)⟩ ∧
              (if ext then own.dlc.getLsbD 6 else own.ident.sidl.getLsbD 4) = rtr ∧
              own.dlc &&& 0x0F = d.read (base + 5) &&& 0x0F ∧
              (rtr = false →
                (imageData own).take (d.read (base + 5) &&& 0x0F).toNat =
                  (d.readBurst (base + 6) 8).take (d.read (base + 5) &&& 0x0F).toNat))

/-- The canonical form (R50's registers as a list of cells): two canonical memories that read the same
everywhere are the same list. -/
def Obligations.CanonicalMemoriesAreEqual : Prop :=
  ∀ m n : List Host.Cell, Memory.wf m = true → Memory.wf n = true →
    (∀ a, Memory.read m a = Memory.read n a) → m = n

/-! ### Encoding -/

/-- R90, R92: decoding what an instruction encodes to gives the instruction back: every host operation,
whatever its operands, and every SPI instruction within its domain. -/
def Obligations.DecodeInvertsEncode : Prop :=
  ∀ i : Instr, isHostOp i = true ∨ i.wf = true → decode (encode i) = .ok i

/-- R90, R92, R96: what the decoder accepts is exactly an encoding, so no two encodings mean the same
instruction and none of an instruction's bits is dropped; an SPI frame it accepts is within its domain. -/
def Obligations.EncodeInvertsDecode : Prop :=
  ∀ (e : Encoding) (i : Instr), decode e = .ok i →
    encode i = e ∧ (isHostOp i = false → i.wf = true)

/-- R92, R93, R91: the rows of R92 do not overlap, the reserved LOAD TX BUFFER values and the bytes of no
row are refused by name, and words written out from the tables decode to their instructions. -/
def Obligations.WordsDecode : Prop :=
  (∀ (o p : SpiOp) (b : Byte), b &&& o.mask = o.byte → b &&& p.mask = p.byte → o = p) ∧
    decode (.host ⟨0x42, [.frame ⟨0x123, false, false, [0xDE, 0xAD]⟩]⟩) =
      .ok (.send ⟨0x123, false, false, [0xDE, 0xAD]⟩) ∧
    decode (.host ⟨0x14, [.frame ⟨0x123, true, true, []⟩]⟩) = .ok (.encFrame ⟨0x123, true, true, []⟩) ∧
    decode (.host ⟨0x20, [.byte 0xE0, .bytes [0x17, 0x01]]⟩) = .ok (.uartCks 0xE0 [0x17, 0x01]) ∧
    decode (.host ⟨0x31, [.byte 0x0E, .nat 1]⟩) = .ok (.regRead 0x0E 1) ∧
    decode (.host ⟨0x46, []⟩) = .error (.illegalOpcode 0x46) ∧
    decode (.spi [0b10000101#8]) = .ok (.spiRts 0b101#3) ∧
    decode (.spi [0b10010110#8, 0x00]) = .ok (.spiReadRxBuffer true true 1) ∧
    decode (.spi [0b01000011#8, 0xAA]) = .ok (.spiLoadTxBuffer 0b011#3 [0xAA]) ∧
    decode (.spi [0x40 ||| 0x06, 0xAA]) = .error (.spiFrame 0x46) ∧
    decode (.spi [0x00]) = .error (.spiUnknown 0x00)

end Statements
end

