-- ==== Sys2Proof/Laws/Decode.lean ====
section
/-! SUPPORT. What a successful decoding of an SPI frame says, once. -/

namespace Sys2Proof

/-- The inversion of `decodeSpi`. -/
theorem decodeSpi_ok {tx : List Byte} {i : Instr} (h : decodeSpi tx = .ok i) :
    ∃ b rest o, tx = b :: rest ∧ SpiOp.ofByte b = some o ∧ spiInstrOf o b rest = some i ∧ i.wf = true := by
  cases tx with
  | nil => cases h
  | cons b rest =>
    simp only [decodeSpi] at h
    cases ho : SpiOp.ofByte b with
    | none => simp [ho] at h
    | some o =>
      cases hj : spiInstrOf o b rest with
      | none => simp [ho, hj] at h
      | some j =>
        by_cases hw : j.wf = true
        · simp [ho, hj, hw] at h
          subst h
          exact ⟨b, rest, o, rfl, ho, hj, hw⟩
        · simp [ho, hj, hw] at h

/-- The frame of a READ (R57). -/
theorem decodeSpi_read_length {tx : List Byte} {addr : Byte} {n : Nat}
    (h : decodeSpi tx = .ok (.spiRead addr n)) : tx.length = 2 + n := by
  obtain ⟨b, rest, o, rfl, -, hi, -⟩ := decodeSpi_ok h
  unfold spiInstrOf at hi
  split at hi <;> try (split at hi)
  all_goals simp at hi
  simp [← hi.2]; omega

/-- The frame of a READ RX BUFFER (R57). -/
theorem decodeSpi_readRx_length {tx : List Byte} {n m : Bool} {count : Nat}
    (h : decodeSpi tx = .ok (.spiReadRxBuffer n m count)) : tx.length = 1 + count := by
  obtain ⟨b, rest, o, rfl, -, hi, -⟩ := decodeSpi_ok h
  unfold spiInstrOf at hi
  split at hi <;> try (split at hi)
  all_goals simp at hi
  simp [← hi.2]; omega

/-- The frame of a READ STATUS (R57). -/
theorem decodeSpi_readStatus_length {tx : List Byte} (h : decodeSpi tx = .ok .spiReadStatus) :
    tx.length = 2 := by
  obtain ⟨b, rest, o, rfl, -, hi, -⟩ := decodeSpi_ok h
  unfold spiInstrOf at hi
  split at hi <;> try (split at hi)
  all_goals simp at hi
  rename_i hr
  simp [hr, dummies]

/-- The frame of an RX STATUS (R57). -/
theorem decodeSpi_rxStatus_length {tx : List Byte} (h : decodeSpi tx = .ok .spiRxStatus) :
    tx.length = 2 := by
  obtain ⟨b, rest, o, rfl, -, hi, -⟩ := decodeSpi_ok h
  unfold spiInstrOf at hi
  split at hi <;> try (split at hi)
  all_goals simp at hi
  rename_i hr
  simp [hr, dummies]

end Sys2Proof
end

