-- ==== Sys2Proof/Laws/Dev.lean ====
section
/-! SUPPORT. What each entry of `DEV` is, and what the names made from it are, once: so that no later proof
unfolds the table (spec/00_scope.md rule R7). -/

namespace Sys2Proof

@[simp] theorem Config.dev_reset : Config.dev.reset = ⟨0xC0, 0xFF⟩ := rfl
@[simp] theorem Config.dev_read : Config.dev.read = ⟨0x03, 0xFF⟩ := rfl
@[simp] theorem Config.dev_readRx : Config.dev.readRx = ⟨0x90, 0xF9⟩ := rfl
@[simp] theorem Config.dev_write : Config.dev.write = ⟨0x02, 0xFF⟩ := rfl
@[simp] theorem Config.dev_loadTx : Config.dev.loadTx = ⟨0x40, 0xF8⟩ := rfl
@[simp] theorem Config.dev_rts : Config.dev.rts = ⟨0x80, 0xF8⟩ := rfl
@[simp] theorem Config.dev_readStatus : Config.dev.readStatus = ⟨0xA0, 0xFF⟩ := rfl
@[simp] theorem Config.dev_rxStatus : Config.dev.rxStatus = ⟨0xB0, 0xFF⟩ := rfl
@[simp] theorem Config.dev_bitModify : Config.dev.bitModify = ⟨0x05, 0xFF⟩ := rfl
@[simp] theorem Config.dev_readRxN : Config.dev.readRxN = 2 := rfl
@[simp] theorem Config.dev_readRxM : Config.dev.readRxM = 1 := rfl
@[simp] theorem Config.dev_loadTxAbc : Config.dev.loadTxAbc = 0 := rfl
@[simp] theorem Config.dev_rtsT : Config.dev.rtsT = 0 := rfl
@[simp] theorem Config.dev_bfpctrl : Config.dev.bfpctrl = 0x0C := rfl
@[simp] theorem Config.dev_txrtsctrl : Config.dev.txrtsctrl = 0x0D := rfl
@[simp] theorem Config.dev_canstat : Config.dev.canstat = 0x0E := rfl
@[simp] theorem Config.dev_canctrl : Config.dev.canctrl = 0x0F := rfl
@[simp] theorem Config.dev_tecReg : Config.dev.tecReg = 0x1C := rfl
@[simp] theorem Config.dev_recReg : Config.dev.recReg = 0x1D := rfl
@[simp] theorem Config.dev_cnf3 : Config.dev.cnf3 = 0x28 := rfl
@[simp] theorem Config.dev_cnf2 : Config.dev.cnf2 = 0x29 := rfl
@[simp] theorem Config.dev_cnf1 : Config.dev.cnf1 = 0x2A := rfl
@[simp] theorem Config.dev_caninte : Config.dev.caninte = 0x2B := rfl
@[simp] theorem Config.dev_canintf : Config.dev.canintf = 0x2C := rfl
@[simp] theorem Config.dev_eflg : Config.dev.eflg = 0x2D := rfl
@[simp] theorem Config.dev_txb : Config.dev.txb = #v[0x30, 0x40, 0x50] := rfl
@[simp] theorem Config.dev_rxb : Config.dev.rxb = #v[0x60, 0x70] := rfl
@[simp] theorem Config.dev_rxf : Config.dev.rxf = #v[0x00, 0x04, 0x08, 0x10, 0x14, 0x18] := rfl
@[simp] theorem Config.dev_rxm : Config.dev.rxm = #v[0x20, 0x24] := rfl
@[simp] theorem Config.dev_sidhOffset : Config.dev.sidhOffset = 1 := rfl
@[simp] theorem Config.dev_sidlOffset : Config.dev.sidlOffset = 2 := rfl
@[simp] theorem Config.dev_dlcOffset : Config.dev.dlcOffset = 5 := rfl
@[simp] theorem Config.dev_dataOffset : Config.dev.dataOffset = 6 := rfl
@[simp] theorem Config.dev_reqop : Config.dev.reqop = 5 := rfl
@[simp] theorem Config.dev_abat : Config.dev.abat = 4 := rfl
@[simp] theorem Config.dev_osm : Config.dev.osm = 3 := rfl
@[simp] theorem Config.dev_clken : Config.dev.clken = 2 := rfl
@[simp] theorem Config.dev_clkpre : Config.dev.clkpre = 0 := rfl
@[simp] theorem Config.dev_opmod : Config.dev.opmod = 5 := rfl
@[simp] theorem Config.dev_icod : Config.dev.icod = 1 := rfl
@[simp] theorem Config.dev_sjw : Config.dev.sjw = 6 := rfl
@[simp] theorem Config.dev_brp : Config.dev.brp = 0 := rfl
@[simp] theorem Config.dev_btlmode : Config.dev.btlmode = 7 := rfl
@[simp] theorem Config.dev_sam : Config.dev.sam = 6 := rfl
@[simp] theorem Config.dev_phseg1 : Config.dev.phseg1 = 3 := rfl
@[simp] theorem Config.dev_prseg : Config.dev.prseg = 0 := rfl
@[simp] theorem Config.dev_sof : Config.dev.sof = 7 := rfl
@[simp] theorem Config.dev_wakfil : Config.dev.wakfil = 6 := rfl
@[simp] theorem Config.dev_phseg2 : Config.dev.phseg2 = 0 := rfl
@[simp] theorem Config.dev_merre : Config.dev.merre = 7 := rfl
@[simp] theorem Config.dev_wakie : Config.dev.wakie = 6 := rfl
@[simp] theorem Config.dev_errie : Config.dev.errie = 5 := rfl
@[simp] theorem Config.dev_txie : Config.dev.txie = #v[2, 3, 4] := rfl
@[simp] theorem Config.dev_rxie : Config.dev.rxie = #v[0, 1] := rfl
@[simp] theorem Config.dev_merrf : Config.dev.merrf = 7 := rfl
@[simp] theorem Config.dev_wakif : Config.dev.wakif = 6 := rfl
@[simp] theorem Config.dev_errif : Config.dev.errif = 5 := rfl
@[simp] theorem Config.dev_txif : Config.dev.txif = #v[2, 3, 4] := rfl
@[simp] theorem Config.dev_rxif : Config.dev.rxif = #v[0, 1] := rfl
@[simp] theorem Config.dev_rxovr : Config.dev.rxovr = #v[6, 7] := rfl
@[simp] theorem Config.dev_txbo : Config.dev.txbo = 5 := rfl
@[simp] theorem Config.dev_txep : Config.dev.txep = 4 := rfl
@[simp] theorem Config.dev_rxep : Config.dev.rxep = 3 := rfl
@[simp] theorem Config.dev_txwar : Config.dev.txwar = 2 := rfl
@[simp] theorem Config.dev_rxwar : Config.dev.rxwar = 1 := rfl
@[simp] theorem Config.dev_ewarn : Config.dev.ewarn = 0 := rfl
@[simp] theorem Config.dev_abtf : Config.dev.abtf = 6 := rfl
@[simp] theorem Config.dev_mloa : Config.dev.mloa = 5 := rfl
@[simp] theorem Config.dev_txerr : Config.dev.txerr = 4 := rfl
@[simp] theorem Config.dev_txreq : Config.dev.txreq = 3 := rfl
@[simp] theorem Config.dev_txp : Config.dev.txp = 0 := rfl
@[simp] theorem Config.dev_sidlSid : Config.dev.sidlSid = 5 := rfl
@[simp] theorem Config.dev_sidlEid : Config.dev.sidlEid = 0 := rfl
@[simp] theorem Config.dev_sidlExt : Config.dev.sidlExt = 3 := rfl
@[simp] theorem Config.dev_sidlSrr : Config.dev.sidlSrr = 4 := rfl
@[simp] theorem Config.dev_dlcRtr : Config.dev.dlcRtr = 6 := rfl
@[simp] theorem Config.dev_dlcRb : Config.dev.dlcRb = 4 := rfl
@[simp] theorem Config.dev_dlcLen : Config.dev.dlcLen = 0 := rfl
@[simp] theorem Config.dev_rxmMode : Config.dev.rxmMode = 5 := rfl
@[simp] theorem Config.dev_rxrtr : Config.dev.rxrtr = 3 := rfl
@[simp] theorem Config.dev_bukt : Config.dev.bukt = 2 := rfl
@[simp] theorem Config.dev_bukt1 : Config.dev.bukt1 = 1 := rfl
@[simp] theorem Config.dev_filhit : Config.dev.filhit = 0 := rfl
@[simp] theorem Config.dev_bfs : Config.dev.bfs = #v[4, 5] := rfl
@[simp] theorem Config.dev_bfe : Config.dev.bfe = #v[2, 3] := rfl
@[simp] theorem Config.dev_bfm : Config.dev.bfm = #v[0, 1] := rfl
@[simp] theorem Config.dev_rtsPin : Config.dev.rtsPin = #v[3, 4, 5] := rfl
@[simp] theorem Config.dev_rtsMode : Config.dev.rtsMode = #v[0, 1, 2] := rfl
@[simp] theorem Config.dev_statusRxif : Config.dev.statusRxif = #v[0, 1] := rfl
@[simp] theorem Config.dev_statusTxreq : Config.dev.statusTxreq = #v[2, 4, 6] := rfl
@[simp] theorem Config.dev_statusTxif : Config.dev.statusTxif = #v[3, 5, 7] := rfl
@[simp] theorem Config.dev_rxStatusRxif : Config.dev.rxStatusRxif = #v[6, 7] := rfl
@[simp] theorem Config.dev_rxStatusExt : Config.dev.rxStatusExt = 4 := rfl
@[simp] theorem Config.dev_rxStatusRtr : Config.dev.rxStatusRtr = 3 := rfl
@[simp] theorem Config.dev_rxStatusFilter : Config.dev.rxStatusFilter = 0 := rfl
@[simp] theorem Config.dev_rxStatusFilterCode : Config.dev.rxStatusFilterCode = #v[0b000#3, 0b001#3, 0b010#3, 0b011#3, 0b100#3, 0b101#3] := rfl
@[simp] theorem Config.dev_rxStatusRollover : Config.dev.rxStatusRollover = #v[0b110#3, 0b111#3] := rfl
@[simp] theorem Config.dev_normalCode : Config.dev.normalCode = 0b000#3 := rfl
@[simp] theorem Config.dev_loopbackCode : Config.dev.loopbackCode = 0b010#3 := rfl
@[simp] theorem Config.dev_listenOnlyCode : Config.dev.listenOnlyCode = 0b011#3 := rfl
@[simp] theorem Config.dev_configCode : Config.dev.configCode = 0b100#3 := rfl

@[simp] theorem SpiOp.byte_reset : SpiOp.byte .reset = 0xC0 := rfl
@[simp] theorem SpiOp.byte_read : SpiOp.byte .read = 0x03 := rfl
@[simp] theorem SpiOp.byte_readRx : SpiOp.byte .readRx = 0x90 := rfl
@[simp] theorem SpiOp.byte_write : SpiOp.byte .write = 0x02 := rfl
@[simp] theorem SpiOp.byte_loadTx : SpiOp.byte .loadTx = 0x40 := rfl
@[simp] theorem SpiOp.byte_rts : SpiOp.byte .rts = 0x80 := rfl
@[simp] theorem SpiOp.byte_readStatus : SpiOp.byte .readStatus = 0xA0 := rfl
@[simp] theorem SpiOp.byte_rxStatus : SpiOp.byte .rxStatus = 0xB0 := rfl
@[simp] theorem SpiOp.byte_bitModify : SpiOp.byte .bitModify = 0x05 := rfl

namespace Machine

@[simp] theorem addrCanstat_eq : addrCanstat = 0x0E := rfl
@[simp] theorem addrCanintf_eq : addrCanintf = 0x2C := rfl
@[simp] theorem addrEflg_eq : addrEflg = 0x2D := rfl
/-- R68. -/
theorem txbBase_eq (n : Fin Config.nTxBuf) : txbBase n = 0x30 + 0x10 * n.val := by revert n; decide
/-- R68. -/
theorem rxbBase_eq (n : Fin Config.nRxBuf) : rxbBase n = 0x60 + 0x10 * n.val := by revert n; decide
/-- R74. -/
theorem rxfBase_eq (n : Fin Config.nFilt) :
    rxfBase n = 4 * n.val + if n.val < 3 then 0x00 else 0x04 := by revert n; decide
/-- R74. -/
theorem rxmBase_eq (n : Fin Config.nMask) : rxmBase n = 0x20 + 4 * n.val := by revert n; decide
/-- R93's six start addresses. -/
theorem loadTxStart_eq (abc : BitVec 3) (h : abc.toNat ≤ 5) :
    loadTxStart abc = 0x31 + 0x10 * (abc.toNat / 2) + if abc.getLsbD 0 then 5 else 0 := by
  revert abc; decide
/-- R94's four start addresses. -/
theorem readRxStart_eq (n m : Bool) :
    readRxStart n m = (if n then 0x71 else 0x61) + if m then 5 else 0 := by
  revert n m; decide

/-! ### R66's masks, register by register -/

@[simp] theorem implMask_canstat : implMask .canstat = 0xEE := by decide
@[simp] theorem implMask_canctrl : implMask .canctrl = 0xFF := by decide
@[simp] theorem implMask_bfpctrl : implMask .bfpctrl = 0x3F := by decide
@[simp] theorem implMask_txrtsctrl : implMask .txrtsctrl = 0x3F := by decide
@[simp] theorem implMask_tecCtr : implMask .tecCtr = 0xFF := by decide
@[simp] theorem implMask_recCtr : implMask .recCtr = 0xFF := by decide
@[simp] theorem implMask_cnf3 : implMask .cnf3 = 0xC7 := by decide
@[simp] theorem implMask_cnf2 : implMask .cnf2 = 0xFF := by decide
@[simp] theorem implMask_cnf1 : implMask .cnf1 = 0xFF := by decide
@[simp] theorem implMask_caninte : implMask .caninte = 0xFF := by decide
@[simp] theorem implMask_canintf : implMask .canintf = 0xFF := by decide
@[simp] theorem implMask_eflg : implMask .eflg = 0xFF := by decide
@[simp] theorem implMask_txbCtrl : implMask .txbCtrl = 0x7B := by decide
@[simp] theorem implMask_txbSidl : implMask .txbSidl = 0xEB := by decide
@[simp] theorem implMask_txbDlc : implMask .txbDlc = 0x4F := by decide
@[simp] theorem implMask_txbByte : implMask .txbByte = 0xFF := by decide
@[simp] theorem implMask_rxb0Ctrl : implMask .rxb0Ctrl = 0x6F := by decide
@[simp] theorem implMask_rxb1Ctrl : implMask .rxb1Ctrl = 0x6F := by decide
@[simp] theorem implMask_rxbSidl : implMask .rxbSidl = 0xFB := by decide
@[simp] theorem implMask_rxbDlc : implMask .rxbDlc = 0x7F := by decide
@[simp] theorem implMask_rxbByte : implMask .rxbByte = 0xFF := by decide
@[simp] theorem implMask_filtSidl : implMask .filtSidl = 0xEB := by decide
@[simp] theorem implMask_filtByte : implMask .filtByte = 0xFF := by decide
@[simp] theorem implMask_maskSidl : implMask .maskSidl = 0xE3 := by decide
@[simp] theorem implMask_maskByte : implMask .maskByte = 0xFF := by decide
@[simp] theorem writeMask_canstat : writeMask .canstat = 0x00 := by decide
@[simp] theorem writeMask_canctrl : writeMask .canctrl = 0xFF := by decide
@[simp] theorem writeMask_bfpctrl : writeMask .bfpctrl = 0xFF := by decide
@[simp] theorem writeMask_txrtsctrl : writeMask .txrtsctrl = 0x07 := by decide
@[simp] theorem writeMask_tecCtr : writeMask .tecCtr = 0x00 := by decide
@[simp] theorem writeMask_recCtr : writeMask .recCtr = 0x00 := by decide
@[simp] theorem writeMask_cnf3 : writeMask .cnf3 = 0xFF := by decide
@[simp] theorem writeMask_cnf2 : writeMask .cnf2 = 0xFF := by decide
@[simp] theorem writeMask_cnf1 : writeMask .cnf1 = 0xFF := by decide
@[simp] theorem writeMask_caninte : writeMask .caninte = 0xFF := by decide
@[simp] theorem writeMask_canintf : writeMask .canintf = 0xFF := by decide
@[simp] theorem writeMask_eflg : writeMask .eflg = 0x00 := by decide
@[simp] theorem writeMask_txbCtrl : writeMask .txbCtrl = 0x0B := by decide
@[simp] theorem writeMask_txbSidl : writeMask .txbSidl = 0xFF := by decide
@[simp] theorem writeMask_txbDlc : writeMask .txbDlc = 0xFF := by decide
@[simp] theorem writeMask_txbByte : writeMask .txbByte = 0xFF := by decide
@[simp] theorem writeMask_rxb0Ctrl : writeMask .rxb0Ctrl = 0x64 := by decide
@[simp] theorem writeMask_rxb1Ctrl : writeMask .rxb1Ctrl = 0x60 := by decide
@[simp] theorem writeMask_rxbSidl : writeMask .rxbSidl = 0x00 := by decide
@[simp] theorem writeMask_rxbDlc : writeMask .rxbDlc = 0x00 := by decide
@[simp] theorem writeMask_rxbByte : writeMask .rxbByte = 0x00 := by decide
@[simp] theorem writeMask_filtSidl : writeMask .filtSidl = 0xFF := by decide
@[simp] theorem writeMask_filtByte : writeMask .filtByte = 0xFF := by decide
@[simp] theorem writeMask_maskSidl : writeMask .maskSidl = 0xFF := by decide
@[simp] theorem writeMask_maskByte : writeMask .maskByte = 0xFF := by decide

/-- EFLG alone has bits that writing 0 clears: RX1OVR and RX0OVR. -/
@[simp] theorem clearMask_eq (k : RegKind) : clearMask k = if k = .eflg then 0xC0 else 0x00 := by
  cases k <;> decide

/-- The filters and the masks alone take writes in configuration mode only. -/
@[simp] theorem configOnly_eq (k : RegKind) :
    configOnly k = decide (k = .filtSidl ∨ k = .filtByte ∨ k = .maskSidl ∨ k = .maskByte) := by
  cases k <;> decide

@[simp] theorem sidMask_eq : sidMask = 0xE0 := by decide
@[simp] theorem eidMask_eq : eidMask = 0x03 := by decide
/-- REQOP and OPMOD are bits 7:5. -/
@[simp] theorem fieldMask_mode : fieldMask 5 3 = 0xE0 := by decide

/-! ### The bytes R92, R97 and R98 write out -/

/-- R92. -/
theorem readRxByte_eq (n m : Bool) :
    readRxByte n m = 0x90 ||| (if n then 0x04 else 0x00) ||| (if m then 0x02 else 0x00) := by
  revert n m; decide
/-- R92. -/
theorem loadTxByte_eq (abc : BitVec 3) : loadTxByte abc = 0x40 ||| abc.setWidth 8 := by revert abc; decide
/-- R92. -/
theorem rtsByte_eq (t : BitVec 3) : rtsByte t = 0x80 ||| t.setWidth 8 := by revert t; decide

/-- R127: RTS's byte, for a `t` it accepts. -/
theorem rtsByte_operand (t : Byte) (h : badRts t = false) : rtsByte (t.setWidth 3) = 0x80 ||| t := by
  have all : ∀ x : Byte, badRts x = false → rtsByte (x.setWidth 3) = 0x80 ||| x := by decide
  exact all t h
/-- R128: LOAD_TX's byte, for a `sel` it accepts. -/
theorem loadTxByte_operand {sel : Byte} (h : sel.toNat ≤ 5) : loadTxByte (sel.setWidth 3) = 0x40 ||| sel := by
  revert sel; decide
/-- R129: READ_RX's byte, for a `sel` it accepts. -/
theorem readRxByte_operand {sel : Byte} (h : sel.toNat ≤ 3) :
    readRxByte (sel.getLsbD 1) (sel.getLsbD 0) = 0x90 ||| (sel <<< 1) := by
  revert sel; decide
/-- R164: SEND's request for the buffer it loaded. -/
theorem rtsByte_sent (n : Fin Config.nTxBuf) : rtsByte (BitVec.twoPow 3 n.val) = 0x80 ||| bitMask n.val := by
  revert n; decide

/-! ### R7's (2+4) filters, and the RX STATUS byte -/

/-- R7, R74: RXF0 and RXF1 are RXB0's. -/
theorem bufferOfFilter_eq (f : Fin Config.nFilt) : bufferOfFilter f = if f.val < 2 then 0 else 1 := rfl
/-- R74: RXM0 goes with RXF0 and RXF1. -/
theorem maskOfFilter_eq (f : Fin Config.nFilt) : maskOfFilter f = if f.val < 2 then 0 else 1 := by
  revert f; decide

/-- R126's filter field: RXB0 shows RXF0 or RXF1, RXB1 shows them as rollover. -/
theorem Device.rxFilterField_eq (d : Device) (n : Fin Config.nRxBuf) :
    d.rxFilterField n =
      if n = 0 then d.filterHit 0
      else if d.filterHit 1 = 0 then 0b110#3 else if d.filterHit 1 = 1 then 0b111#3 else d.filterHit 1 := by
  have all : ∀ hit : BitVec 3,
      Config.dev.rxStatusFilterCode[hit.toNat]?.getD hit = hit ∧
        Config.dev.rxStatusRollover[hit.toNat]?.getD hit =
          if hit = 0 then 0b110#3 else if hit = 1 then 0b111#3 else hit := by decide
  have h0 := all (d.filterHit 0)
  have h1 := all (d.filterHit 1)
  rcases (by revert n; decide : n = 0 ∨ n = 1) with rfl | rfl
  · simpa [Device.rxFilterField] using h0.1
  · simp only [Device.rxFilterField, h1.1]
    exact h1.2

@[simp] theorem rxStatusFlagBits_eq : rxStatusFlagBits = 0xC0 := by decide
@[simp] theorem rxStatusFrameBits_eq : rxStatusFrameBits = 0x1F := by decide

/-- The RX STATUS byte where none or both buffers wait. -/
theorem rxStatus_flagsOnly (b : Bool) (drawn : Byte) :
    mergeBits drawn (bitIf b 6 ||| bitIf b 7) rxStatusFlagBits =
      BitVec.ofBool b ++ BitVec.ofBool b ++ BitVec.ofBool (drawn.getLsbD 5) ++ drawn.extractLsb' 0 5 := by
  revert b drawn; decide +kernel

/-- Bits 7:6 and then bits 4:0 of a byte replaced: its bit 5 is left. -/
theorem mergeBits_two (r a c : Byte) :
    mergeBits (mergeBits r a 0xC0) c 0x1F = (r &&& 0x20) ||| (a &&& 0xC0) ||| (c &&& 0x1F) := by
  apply BitVec.eq_of_getLsbD_eq
  intro i hi
  have h : i = 0 ∨ i = 1 ∨ i = 2 ∨ i = 3 ∨ i = 4 ∨ i = 5 ∨ i = 6 ∨ i = 7 := by omega
  rcases h with rfl | rfl | rfl | rfl | rfl | rfl | rfl | rfl <;> simp [mergeBits]

/-- The RX STATUS byte where one buffer waits. -/
theorem rxStatus_withFrame (b ext rtr : Bool) (filter : BitVec 3) (drawn : Byte) :
    mergeBits (mergeBits drawn (bitIf b 6 ||| bitIf (!b) 7) rxStatusFlagBits)
        (bitIf ext 4 ||| bitIf rtr 3 ||| fieldAt 0 filter) rxStatusFrameBits =
      BitVec.ofBool (!b) ++ BitVec.ofBool b ++ BitVec.ofBool (drawn.getLsbD 5) ++
        (BitVec.ofBool ext ++ BitVec.ofBool rtr ++ filter) := by
  have kept : ∀ x : Byte, x &&& 0x20 = bitIf (x.getLsbD 5) 5 := by decide
  rw [rxStatusFlagBits_eq, rxStatusFrameBits_eq, mergeBits_two, kept]
  generalize drawn.getLsbD 5 = u
  revert b ext rtr filter u
  decide +kernel

/-- Every bit of the RX STATUS byte (R126): the flags, the drawn bit 5, and the type and the filter of the one
message that waits, or drawn bits (log 15). -/
theorem Device.rxStatusByte_eq (d : Device) (drawn : Byte) :
    d.rxStatusByte drawn =
      BitVec.ofBool (d.full 1) ++ BitVec.ofBool (d.full 0) ++ BitVec.ofBool (drawn.getLsbD 5) ++
        if d.full 0 = d.full 1 then drawn.extractLsb' 0 5
        else
          let n : Fin Config.nRxBuf := if d.full 0 then 0 else 1
          BitVec.ofBool (d.rxExtended n) ++ BitVec.ofBool (d.rxRemote n) ++ d.rxFilterField n := by
  unfold Device.rxStatusByte
  split
  · rename_i h
    simp only [Device.rxStatusFlags, h]
    exact rxStatus_flagsOnly _ _
  · rename_i h
    have h1 : d.full 1 = !d.full 0 := by
      revert h
      cases d.full 0 <;> cases d.full 1 <;> simp
    simp only [Device.rxStatusFlags, Device.rxStatusFrame, h1]
    exact rxStatus_withFrame _ _ _ _ _

/-- SIDL of an extended identifier is R97's concatenation. -/
theorem encIdImage_sidl_ext (id : Id) :
    (encIdImage id true).sidl = id.extractLsb' 18 3 ++ 0b010#3 ++ id.extractLsb' 16 2 := by
  simp only [encIdImage, if_true]
  generalize id.extractLsb' 18 3 = a
  generalize id.extractLsb' 16 2 = b
  revert a b; decide

/-- SIDL of a standard identifier is R97's concatenation. -/
theorem encIdImage_sidl_std (id : Id) :
    (encIdImage id false).sidl = id.extractLsb' 0 3 ++ 0b00000#5 := by
  simp only [encIdImage, Bool.false_eq_true, if_false]
  generalize id.extractLsb' 0 3 = a
  revert a; decide

/-- The DLC byte is R98's concatenation. -/
theorem encDlcByte_eq (n : Nat) (rtr : Bool) :
    encDlcByte n rtr = 0b0#1 ++ BitVec.ofBool rtr ++ 0b00#2 ++ BitVec.ofNat 4 n := by
  unfold encDlcByte
  generalize BitVec.ofNat 4 n = a
  revert a rtr; decide

/-- An image is canonical if bits 4 and 2 of its SIDL are 0, and for a standard identifier every extension bit
(R193.2). -/
theorem idCanonical_eq (img : IdImage) :
    idCanonical img =
      (!img.sidl.getLsbD 4 && !img.sidl.getLsbD 2 &&
        (decExt img || (img.sidl.extractLsb' 0 2 == 0b00#2 && img.eid8 == 0x00 && img.eid0 == 0x00))) := by
  have h : ∀ b : Byte, (b &&& ~~~ 0xEB == 0x00) = (!b.getLsbD 4 && !b.getLsbD 2) := by decide
  rw [← h]
  rfl

/-- R65's map has one register at every address that is no mirror. -/
theorem regMap_once : ∀ a, a < 0x80 → canonAddr a = a → (regMap.map (·.1)).count a = 1 := by
  decide +kernel

/-- And no other address: 16 rows of 8, less the 14 mirrors. -/
theorem regMap_length : regMap.length = 128 - 14 := by decide

/-- R67: reaching a mirror is reaching CANSTAT or CANCTRL. -/
@[simp] theorem canonAddr_canon (a : Nat) : canonAddr (canonAddr a) = canonAddr a := by
  have h (x : Nat) : canonAddr x = if x % 16 = 14 then 0x0E else if x % 16 = 15 then 0x0F else x := rfl
  rw [h a]
  split
  · rfl
  · split
    · rfl
    · rename_i h1 h2
      rw [h, if_neg h1, if_neg h2]

end Machine

end Sys2Proof
end

