-- ==== Sys2Proof/Laws/Memory.lean ====
section
/-! SUPPORT. The laws of the device register space's memory: reading after writing, and the canonical form
every operation keeps. -/

namespace Sys2Proof.Machine

theorem Memory.lookup_insert_same (m : List Host.Cell) (a : Nat) (b : Byte) :
    Memory.lookup (Memory.insert m a b) a = some b := by
  induction m with
  | nil => simp [Memory.insert, Memory.lookup]
  | cons c m ih =>
    obtain ⟨k, v⟩ := c
    unfold Memory.insert
    split
    · simp [Memory.lookup]
    · split
      · simp [Memory.lookup]
      · rename_i h1 h2
        have hk : k ≠ a := fun h => h2 h.symm
        simp [Memory.lookup, hk, ih]

theorem Memory.lookup_insert_other (m : List Host.Cell) {a a' : Nat} (b : Byte) (h : a' ≠ a) :
    Memory.lookup (Memory.insert m a b) a' = Memory.lookup m a' := by
  induction m with
  | nil => simp [Memory.insert, Memory.lookup, h.symm]
  | cons c m ih =>
    obtain ⟨k, v⟩ := c
    unfold Memory.insert
    split
    · simp [Memory.lookup, h.symm]
    · split
      · rename_i h2
        subst h2
        simp [Memory.lookup, h.symm]
      · simp only [Memory.lookup, ih]

theorem Memory.lookup_erase_same (m : List Host.Cell) (a : Nat) :
    Memory.lookup (Memory.erase m a) a = none := by
  induction m with
  | nil => rfl
  | cons c m ih =>
    obtain ⟨k, v⟩ := c
    by_cases hk : k = a
    · simpa [Memory.erase, hk] using ih
    · simpa [Memory.erase, hk, Memory.lookup] using ih

theorem Memory.lookup_erase_other (m : List Host.Cell) {a a' : Nat} (h : a' ≠ a) :
    Memory.lookup (Memory.erase m a) a' = Memory.lookup m a' := by
  induction m with
  | nil => rfl
  | cons c m ih =>
    obtain ⟨k, v⟩ := c
    by_cases hk : k = a
    · subst hk
      simpa [Memory.erase, Memory.lookup, h.symm] using ih
    · have : Memory.erase ((k, v) :: m) a = (k, v) :: Memory.erase m a := by simp [Memory.erase, hk]
      rw [this]
      simp only [Memory.lookup, ih]

/-- What is written is read back. -/
theorem Memory.read_write_same (m : List Host.Cell) (a : Nat) (b : Byte) :
    Memory.read (Memory.write m a b) a = some b := by
  unfold Memory.read Memory.write
  by_cases h : resetContents a = some b
  · simp [h, Memory.lookup_erase_same]
  · simp [h, Memory.lookup_insert_same]

/-- A write leaves every other address alone. -/
theorem Memory.read_write_other (m : List Host.Cell) {a a' : Nat} (b : Byte) (h : a' ≠ a) :
    Memory.read (Memory.write m a b) a' = Memory.read m a' := by
  unfold Memory.read Memory.write
  by_cases hr : resetContents a = some b
  · simp [hr, Memory.lookup_erase_other m h]
  · simp [hr, Memory.lookup_insert_other m b h]

theorem Memory.wf_iff (m : List Host.Cell) :
    Memory.wf m = true ↔
      m.Pairwise (fun c d => c.1 < d.1) ∧ ∀ c ∈ m, resetContents c.1 ≠ some c.2 := by
  simp [Memory.wf]

@[simp] theorem Memory.wf_nil : Memory.wf [] = true := rfl

theorem Memory.mem_insert {m : List Host.Cell} {a : Nat} {b : Byte} {c : Host.Cell}
    (h : c ∈ Memory.insert m a b) : c = (a, b) ∨ c ∈ m := by
  induction m with
  | nil => simpa [Memory.insert] using h
  | cons d m ih =>
    obtain ⟨k, v⟩ := d
    unfold Memory.insert at h
    split at h
    · simpa using h
    · split at h
      · rcases List.mem_cons.1 h with h | h
        · exact .inl h
        · exact .inr (List.mem_cons_of_mem _ h)
      · rcases List.mem_cons.1 h with h | h
        · exact .inr (h ▸ List.mem_cons_self ..)
        · exact (ih h).imp id (List.mem_cons_of_mem _)

theorem Memory.pairwise_insert {m : List Host.Cell} (a : Nat) (b : Byte)
    (h : m.Pairwise fun c d => c.1 < d.1) :
    (Memory.insert m a b).Pairwise fun c d => c.1 < d.1 := by
  induction m with
  | nil => simp [Memory.insert]
  | cons d m ih =>
    obtain ⟨k, v⟩ := d
    obtain ⟨hk, hm⟩ := List.pairwise_cons.1 h
    unfold Memory.insert
    split
    · rename_i hak
      refine List.pairwise_cons.2 ⟨fun c hc => ?_, h⟩
      rcases List.mem_cons.1 hc with rfl | hc
      · exact hak
      · exact Nat.lt_trans hak (hk c hc)
    · split
      · rename_i hak
        exact List.pairwise_cons.2 ⟨fun c hc => hak ▸ hk c hc, hm⟩
      · rename_i h1 h2
        refine List.pairwise_cons.2 ⟨fun c hc => ?_, ih hm⟩
        rcases Memory.mem_insert hc with rfl | hc
        · exact Nat.lt_of_le_of_ne (Nat.le_of_not_lt h1) fun e => h2 e.symm
        · exact hk c hc

/-- A write keeps the canonical form. -/
theorem Memory.wf_write {m : List Host.Cell} (a : Nat) (b : Byte) (h : Memory.wf m = true) :
    Memory.wf (Memory.write m a b) = true := by
  rw [Memory.wf_iff] at h ⊢
  unfold Memory.write
  split
  · exact ⟨h.1.filter _, fun c hc => h.2 c (List.mem_of_mem_filter hc)⟩
  · rename_i hr
    refine ⟨Memory.pairwise_insert a b h.1, fun c hc => ?_⟩
    rcases Memory.mem_insert hc with rfl | hc
    · exact hr
    · exact h.2 c hc

end Sys2Proof.Machine
end

