-- ==== Sys2Proof/Laws/Device.lean ====
section
/-! SUPPORT. What the reference device's operations keep: the canonical form of its memory, its law, and the
number of bytes it answers. -/

namespace Sys2Proof.Machine

/-- The device's memory is in canonical form. -/
def Device.Canonical (d : Device) : Prop := Memory.wf d.regs = true

theorem Device.store_canonical {d : Device} (a : Nat) (b : Byte) (h : d.Canonical) :
    (d.store a b).Canonical := Memory.wf_write _ _ h

theorem Device.setBit_canonical {d : Device} (a i : Nat) (h : d.Canonical) :
    (d.setBit a i).Canonical := d.store_canonical _ _ h

theorem Device.clearBit_canonical {d : Device} (a i : Nat) (h : d.Canonical) :
    (d.clearBit a i).Canonical := d.store_canonical _ _ h

theorem Device.writeMasked_canonical {d : Device} (a : Nat) (mask b : Byte) (h : d.Canonical) :
    (d.writeMasked a mask b).Canonical := by
  unfold Device.writeMasked
  split
  · exact h
  · split
    · exact d.store_canonical _ _ h
    · exact d.store_canonical _ _ h

theorem Device.writeByte_canonical {d : Device} (a : Nat) (b : Byte) (h : d.Canonical) :
    (d.writeByte a b).Canonical := Device.writeMasked_canonical a 0xFF b h

theorem Device.writeBurst_canonical (bs : List Byte) {d : Device} (a : Nat) (h : d.Canonical) :
    (d.writeBurst a bs).Canonical := by
  induction bs generalizing d a with
  | nil => exact h
  | cons b bs ih => exact ih (a + 1) (Device.writeByte_canonical a b h)

theorem Device.storeBurst_canonical (bs : List Byte) {d : Device} (a : Nat) (h : d.Canonical) :
    (d.storeBurst a bs).Canonical := by
  induction bs generalizing d a with
  | nil => exact h
  | cons b bs ih => exact ih (a + 1) (Device.store_canonical a b h)

theorem Device.reset_canonical (d : Device) : d.reset.Canonical := rfl

theorem Device.requestIf_canonical {d : Device} (asked : Bool) (n : Fin Config.nTxBuf) (h : d.Canonical) :
    (d.requestIf asked n).Canonical := by
  cases asked
  · exact h
  · exact Device.setBit_canonical _ _ h

theorem Device.requestToSend_canonical {d : Device} (t : BitVec 3) (h : d.Canonical) :
    (d.requestToSend t).Canonical :=
  Device.requestIf_canonical _ _ (Device.requestIf_canonical _ _ (Device.requestIf_canonical _ _ h))

theorem Memory.wf_foldl_write (f : Nat → Byte) (l : List Nat) {m : List Host.Cell}
    (h : Memory.wf m = true) : Memory.wf (l.foldl (fun m a => Memory.write m a (f a)) m) = true := by
  induction l generalizing m with
  | nil => exact h
  | cons a l ih => exact ih (Memory.wf_write a (f a) h)

theorem drawnRegs_wf (epoch : Nat) (addrs : List Nat) : Memory.wf (drawnRegs epoch addrs) = true := by
  unfold drawnRegs
  exact Memory.wf_foldl_write (Config.devPowerOn epoch) addrs Memory.wf_nil

theorem Device.havoc_canonical (d : Device) : d.havoc.Canonical := by
  have : d.havoc.regs = drawnRegs (d.epoch + 1) canonAddrs := by rw [Device.havoc]
  rw [Device.Canonical, this]
  exact drawnRegs_wf _ _

theorem Device.writeFrame_canonical {d : Device} (a : Nat) (data : List Byte) (h : d.Canonical) :
    (d.writeFrame a data).Canonical := by
  unfold Device.writeFrame
  split
  · exact Device.writeBurst_canonical _ _ h
  · exact Device.havoc_canonical d

theorem Device.bitModify_canonical {d : Device} (a : Nat) (mask data : Byte) (h : d.Canonical) :
    (d.bitModify a mask data).Canonical := by
  unfold Device.bitModify
  split
  · exact Device.havoc_canonical d
  · exact Device.writeMasked_canonical _ _ _ h

theorem Device.enterMode_canonical {d : Device} (m : BitVec 3) (b : Byte) (h : d.Canonical) :
    (d.enterMode m b).Canonical := d.store_canonical _ _ h

theorem Device.takeMode_canonical {d : Device} (k : Nat) (b : Byte) (h : d.Canonical) :
    (d.takeMode k b).Canonical := by
  unfold Device.takeMode
  split
  · exact h
  · exact Device.enterMode_canonical _ b h

theorem Device.takeLastMode_canonical {d : Device} (b : Byte) (h : d.Canonical) :
    (d.takeLastMode b).Canonical := by
  unfold Device.takeLastMode
  split
  · exact h
  · exact Device.enterMode_canonical _ b h

theorem Device.fill_canonical {d : Device} (n : Fin Config.nRxBuf) (f : Fin Config.nFilt)
    (img : BufferImage) (h : d.Canonical) : (d.fill n f img).Canonical :=
  Device.setBit_canonical _ _ (Device.store_canonical _ _ (Device.storeBurst_canonical _ _ h))

theorem Device.overflow_canonical {d : Device} (n : Fin Config.nRxBuf) (h : d.Canonical) :
    (d.overflow n).Canonical := Device.setBit_canonical _ _ h

/-- The filter that lets a frame into buffer n is one of n's own, and accepts it (R74). -/
theorem Device.hit_accepts {d : Device} {n : Fin Config.nRxBuf} {named f : Fin Config.nFilt} {img : IdImage}
    (h : d.hit n named img = some f) : bufferOfFilter f = n ∧ d.accepts named f img = true := by
  have hm : f ∈ (List.finRange Config.nFilt).filter
      fun f => bufferOfFilter f == n && d.accepts named f img := by
    simp only [Device.hit] at h
    split at h
    · rename_i hn
      rwa [← Option.some.inj h]
    · exact List.mem_of_head? h
  simpa using (List.mem_filter.1 hm).2

/-- Everything a frame that reaches the device can do: nothing, enter an empty buffer by a filter that accepts
it, or be lost at a full one (R73). -/
theorem Device.receive_cases (d : Device) (named : Fin Config.nFilt) (img : BufferImage) (other : Bool) :
    d.receive named img other = d ∨
      (∃ n f, d.full n = false ∧ d.accepts named f img.ident = true ∧
        d.receive named img other = d.fill n f img) ∨
        ∃ n, d.full n = true ∧ d.receive named img other = d.overflow n := by
  have into1 {g : Fin Config.nFilt} (hg : d.accepts named g img.ident = true) :
      (∃ n f, d.full n = false ∧ d.accepts named f img.ident = true ∧
          d.intoRxb1 g img = d.fill n f img) ∨
        ∃ n, d.full n = true ∧ d.intoRxb1 g img = d.overflow n := by
    unfold Device.intoRxb1
    cases h : d.full 1
    · exact .inl ⟨1, g, h, hg, rfl⟩
    · exact .inr ⟨1, h, rfl⟩
  unfold Device.receive
  split
  · exact .inl rfl
  · rename_i hg
    exact .inr (into1 (Device.hit_accepts hg).2)
  · rename_i f hf
    have ha := (Device.hit_accepts hf).2
    cases h0 : d.full 0
    · exact .inr (.inl ⟨0, _, h0, ha, by simp⟩)
    · cases hr : d.rollover
      · simp only [Bool.not_true, Bool.false_eq_true, if_false]
        split
        · rename_i hg
          exact .inr (into1 (Device.hit_accepts hg).2)
        · exact .inr (.inr ⟨0, h0, rfl⟩)
      · cases h1 : d.full 1
        · exact .inr (.inl ⟨1, _, h1, ha, by simp⟩)
        · cases other
          · exact .inr (.inr ⟨0, h0, by simp⟩)
          · exact .inr (.inr ⟨1, h1, by simp⟩)

theorem Device.receive_canonical {d : Device} (named : Fin Config.nFilt) (img : BufferImage) (other : Bool)
    (h : d.Canonical) : (d.receive named img other).Canonical := by
  rcases d.receive_cases named img other with e | ⟨n, f, -, -, e⟩ | ⟨n, -, e⟩ <;> rw [e]
  · exact h
  · exact Device.fill_canonical n f img h
  · exact Device.overflow_canonical n h

theorem Device.txDone_canonical {d : Device} (n : Fin Config.nTxBuf) (named : Fin Config.nFilt)
    (img : BufferImage) (other : Bool) (h : d.Canonical) : (d.txDone n named img other).Canonical := by
  have hd : ((d.clearBit (txbBase n) Config.dev.txreq).setBit addrCanintf Config.dev.txif[n]).Canonical :=
    Device.setBit_canonical _ _ (Device.clearBit_canonical _ _ h)
  simp only [Device.txDone]
  split_ifs
  · exact Device.receive_canonical _ _ _ hd
  · exact hd
  · exact h

theorem Device.answer_canonical {d : Device} (tx raw : List Byte) (h : d.Canonical) :
    (d.answer tx raw).2.Canonical := by
  unfold Device.answer
  split
  · exact Device.reset_canonical d
  · exact h
  · exact Device.clearBit_canonical _ _ h
  · exact Device.writeFrame_canonical _ _ h
  · exact Device.writeFrame_canonical _ _ h
  · exact Device.requestToSend_canonical _ h
  · exact h
  · exact h
  · exact Device.bitModify_canonical _ _ _ h
  · exact Device.havoc_canonical d

/-! ### How many bytes a transaction brings in -/

@[simp] theorem drawBytes_length (n : Nat) (e : Env) : (drawBytes n e).1.length = n := by
  induction n generalizing e with
  | zero => rfl
  | succ n ih => simp [drawBytes, ih]

@[simp] theorem Device.readBurst_length (d : Device) (n a : Nat) : (d.readBurst a n).length = n := by
  induction n generalizing a with
  | zero => rfl
  | succ n ih => simp [Device.readBurst, ih]

@[simp] theorem Device.answerBurst_length (d : Device) (a : Nat) (bs : List Byte) :
    (d.answerBurst a bs).length = bs.length := by
  induction bs generalizing a with
  | nil => rfl
  | cons b bs ih => simp [Device.answerBurst, ih]

@[simp] theorem replaceFirst_length (f : Byte → Byte) (bs : List Byte) :
    (replaceFirst f bs).length = bs.length := by cases bs <;> rfl

/-- Within the register space, what a burst read brings in is what the registers hold (R71). -/
theorem Device.answerBurst_eq_readBurst (d : Device) (a : Nat) (bs : List Byte) (h : a + bs.length ≤ 0x80) :
    d.answerBurst a bs = d.readBurst a bs.length := by
  induction bs generalizing a with
  | nil => rfl
  | cons b bs ih =>
    simp only [List.length_cons] at h
    have ha : a ≤ 0x7F := by omega
    simp [Device.answerBurst, Device.readBurst, ha, ih (a + 1) (by omega)]

/-- The reference device answers one byte for each drawn byte (R10). -/
theorem Device.answer_length (d : Device) (tx raw : List Byte) : (d.answer tx raw).1.length = raw.length := by
  unfold Device.answer
  split <;> simp <;> omega

/-- `SpiXfer(tx)` returns a list of the same length (R10). -/
@[simp] theorem deviceXfer_length (tx : List Byte) (d : Device) (e : Env) :
    (deviceXfer tx d e).rx.length = tx.length := by
  unfold deviceXfer
  split
  · simp
  · simp [Device.answer_length]
  · simp [Device.answer_length]

/-- A transaction keeps the device's memory canonical. -/
theorem deviceXfer_canonical (tx : List Byte) (d : Device) (e : Env) (h : d.Canonical) :
    (deviceXfer tx d e).dev.Canonical := by
  unfold deviceXfer
  split
  · exact h
  · exact Device.answer_canonical _ _ h
  · exact Device.answer_canonical _ _ (Device.takeLastMode_canonical _ h)

end Sys2Proof.Machine
end

