-- ==== Sys2Proof/Laws/State.lean ====
section
/-! SUPPORT. One lemma per field of State for every named update: what each operation of Machine/Ops.lean
writes and what it leaves. All hold by unfolding the update, so later proofs need not. -/

namespace Sys2Proof.Machine

/-! ### logEvent -/

section
variable (e : Event) (s : State)

@[simp] theorem logEvent_cfg : (logEvent e s).cfg = s.cfg := rfl
@[simp] theorem logEvent_seqState : (logEvent e s).seqState = s.seqState := rfl
@[simp] theorem logEvent_op : (logEvent e s).op = s.op := rfl
@[simp] theorem logEvent_step : (logEvent e s).step = s.step := rfl
@[simp] theorem logEvent_attempt : (logEvent e s).attempt = s.attempt := rfl
@[simp] theorem logEvent_initialized : (logEvent e s).initialized = s.initialized := rfl
@[simp] theorem logEvent_curMode : (logEvent e s).curMode = s.curMode := rfl
@[simp] theorem logEvent_filtersLocked : (logEvent e s).filtersLocked = s.filtersLocked := rfl
@[simp] theorem logEvent_faultCode : (logEvent e s).faultCode = s.faultCode := rfl
@[simp] theorem logEvent_result : (logEvent e s).result = s.result := rfl
@[simp] theorem logEvent_rxFifo : (logEvent e s).rxFifo = s.rxFifo := rfl
@[simp] theorem logEvent_scratch : (logEvent e s).scratch = s.scratch := rfl
@[simp] theorem logEvent_urx : (logEvent e s).urx = s.urx := rfl
@[simp] theorem logEvent_uartTx : (logEvent e s).uartTx = s.uartTx := rfl
@[simp] theorem logEvent_dev : (logEvent e s).dev = s.dev := rfl
@[simp] theorem logEvent_env : (logEvent e s).env = s.env := rfl
@[simp] theorem logEvent_history : (logEvent e s).history = s.history ++ [e] := rfl
@[simp] theorem logEvent_link : (logEvent e s).link = s.link := rfl

end

/-! ### emitUart -/

section
variable (l : List Byte) (s : State)

@[simp] theorem emitUart_cfg : (emitUart l s).cfg = s.cfg := rfl
@[simp] theorem emitUart_seqState : (emitUart l s).seqState = s.seqState := rfl
@[simp] theorem emitUart_op : (emitUart l s).op = s.op := rfl
@[simp] theorem emitUart_step : (emitUart l s).step = s.step := rfl
@[simp] theorem emitUart_attempt : (emitUart l s).attempt = s.attempt := rfl
@[simp] theorem emitUart_initialized : (emitUart l s).initialized = s.initialized := rfl
@[simp] theorem emitUart_curMode : (emitUart l s).curMode = s.curMode := rfl
@[simp] theorem emitUart_filtersLocked : (emitUart l s).filtersLocked = s.filtersLocked := rfl
@[simp] theorem emitUart_faultCode : (emitUart l s).faultCode = s.faultCode := rfl
@[simp] theorem emitUart_result : (emitUart l s).result = s.result := rfl
@[simp] theorem emitUart_rxFifo : (emitUart l s).rxFifo = s.rxFifo := rfl
@[simp] theorem emitUart_scratch : (emitUart l s).scratch = s.scratch := rfl
@[simp] theorem emitUart_urx : (emitUart l s).urx = s.urx := rfl
@[simp] theorem emitUart_uartTx : (emitUart l s).uartTx = s.uartTx ++ [l] := rfl
@[simp] theorem emitUart_dev : (emitUart l s).dev = s.dev := rfl
@[simp] theorem emitUart_env : (emitUart l s).env = s.env := rfl
@[simp] theorem emitUart_history : (emitUart l s).history = s.history ++ [.uartTx l] := rfl
@[simp] theorem emitUart_link : (emitUart l s).link = s.link := rfl

end

/-! ### transact -/

section
variable (tx : List Byte) (s : State)

@[simp] theorem transact_cfg : (transact tx s).cfg = s.cfg := rfl
@[simp] theorem transact_seqState : (transact tx s).seqState = s.seqState := rfl
@[simp] theorem transact_op : (transact tx s).op = s.op := rfl
@[simp] theorem transact_step : (transact tx s).step = s.step := rfl
@[simp] theorem transact_attempt : (transact tx s).attempt = s.attempt := rfl
@[simp] theorem transact_initialized : (transact tx s).initialized = s.initialized := rfl
@[simp] theorem transact_curMode : (transact tx s).curMode = s.curMode := rfl
@[simp] theorem transact_filtersLocked : (transact tx s).filtersLocked = s.filtersLocked := rfl
@[simp] theorem transact_faultCode : (transact tx s).faultCode = s.faultCode := rfl
@[simp] theorem transact_result : (transact tx s).result = s.result := rfl
@[simp] theorem transact_rxFifo : (transact tx s).rxFifo = s.rxFifo := rfl
@[simp] theorem transact_scratch : (transact tx s).scratch = s.scratch := rfl
@[simp] theorem transact_urx : (transact tx s).urx = s.urx := rfl
@[simp] theorem transact_uartTx : (transact tx s).uartTx = s.uartTx := rfl
@[simp] theorem transact_dev : (transact tx s).dev = (deviceXfer tx s.dev s.env).dev := rfl
@[simp] theorem transact_env : (transact tx s).env = (deviceXfer tx s.dev s.env).env := rfl
@[simp] theorem transact_history : (transact tx s).history = s.history ++ [.spi tx (deviceXfer tx s.dev s.env).rx] := rfl
@[simp] theorem transact_link : (transact tx s).link = s.link := rfl

end

/-! ### goTo -/

section
variable (p : Point) (s : State)

@[simp] theorem goTo_cfg : (goTo p s).cfg = s.cfg := rfl
@[simp] theorem goTo_seqState : (goTo p s).seqState = s.seqState := rfl
@[simp] theorem goTo_op : (goTo p s).op = s.op := rfl
@[simp] theorem goTo_step : (goTo p s).step = s.step + 1 := rfl
@[simp] theorem goTo_attempt : (goTo p s).attempt = s.attempt := rfl
@[simp] theorem goTo_initialized : (goTo p s).initialized = s.initialized := rfl
@[simp] theorem goTo_curMode : (goTo p s).curMode = s.curMode := rfl
@[simp] theorem goTo_filtersLocked : (goTo p s).filtersLocked = s.filtersLocked := rfl
@[simp] theorem goTo_faultCode : (goTo p s).faultCode = s.faultCode := rfl
@[simp] theorem goTo_result : (goTo p s).result = s.result := rfl
@[simp] theorem goTo_rxFifo : (goTo p s).rxFifo = s.rxFifo := rfl
@[simp] theorem goTo_scratch : (goTo p s).scratch = { s.scratch with point := p } := rfl
@[simp] theorem goTo_urx : (goTo p s).urx = s.urx := rfl
@[simp] theorem goTo_uartTx : (goTo p s).uartTx = s.uartTx := rfl
@[simp] theorem goTo_dev : (goTo p s).dev = s.dev := rfl
@[simp] theorem goTo_env : (goTo p s).env = s.env := rfl
@[simp] theorem goTo_history : (goTo p s).history = s.history := rfl
@[simp] theorem goTo_link : (goTo p s).link = s.link := rfl

end

/-! ### seqXfer -/

section
variable (tx : List Byte) (p : Point) (s : State)

@[simp] theorem seqXfer_cfg : (seqXfer tx p s).cfg = s.cfg := rfl
@[simp] theorem seqXfer_seqState : (seqXfer tx p s).seqState = s.seqState := rfl
@[simp] theorem seqXfer_op : (seqXfer tx p s).op = s.op := rfl
@[simp] theorem seqXfer_step : (seqXfer tx p s).step = s.step + 1 := rfl
@[simp] theorem seqXfer_attempt : (seqXfer tx p s).attempt = s.attempt := rfl
@[simp] theorem seqXfer_initialized : (seqXfer tx p s).initialized = s.initialized := rfl
@[simp] theorem seqXfer_curMode : (seqXfer tx p s).curMode = s.curMode := rfl
@[simp] theorem seqXfer_filtersLocked : (seqXfer tx p s).filtersLocked = s.filtersLocked := rfl
@[simp] theorem seqXfer_faultCode : (seqXfer tx p s).faultCode = s.faultCode := rfl
@[simp] theorem seqXfer_result : (seqXfer tx p s).result = s.result := rfl
@[simp] theorem seqXfer_rxFifo : (seqXfer tx p s).rxFifo = s.rxFifo := rfl
@[simp] theorem seqXfer_scratch : (seqXfer tx p s).scratch = { s.scratch with rx := some (deviceXfer tx s.dev s.env).rx, point := p } := rfl
@[simp] theorem seqXfer_urx : (seqXfer tx p s).urx = s.urx := rfl
@[simp] theorem seqXfer_uartTx : (seqXfer tx p s).uartTx = s.uartTx := rfl
@[simp] theorem seqXfer_dev : (seqXfer tx p s).dev = (deviceXfer tx s.dev s.env).dev := rfl
@[simp] theorem seqXfer_env : (seqXfer tx p s).env = (deviceXfer tx s.dev s.env).env := rfl
@[simp] theorem seqXfer_history : (seqXfer tx p s).history = s.history ++ [.spi tx (deviceXfer tx s.dev s.env).rx] := rfl
@[simp] theorem seqXfer_link : (seqXfer tx p s).link = s.link := rfl

end

/-! ### seqEmit -/

section
variable (l : List Byte) (p : Point) (s : State)

@[simp] theorem seqEmit_cfg : (seqEmit l p s).cfg = s.cfg := rfl
@[simp] theorem seqEmit_seqState : (seqEmit l p s).seqState = s.seqState := rfl
@[simp] theorem seqEmit_op : (seqEmit l p s).op = s.op := rfl
@[simp] theorem seqEmit_step : (seqEmit l p s).step = s.step + 1 := rfl
@[simp] theorem seqEmit_attempt : (seqEmit l p s).attempt = s.attempt := rfl
@[simp] theorem seqEmit_initialized : (seqEmit l p s).initialized = s.initialized := rfl
@[simp] theorem seqEmit_curMode : (seqEmit l p s).curMode = s.curMode := rfl
@[simp] theorem seqEmit_filtersLocked : (seqEmit l p s).filtersLocked = s.filtersLocked := rfl
@[simp] theorem seqEmit_faultCode : (seqEmit l p s).faultCode = s.faultCode := rfl
@[simp] theorem seqEmit_result : (seqEmit l p s).result = s.result := rfl
@[simp] theorem seqEmit_rxFifo : (seqEmit l p s).rxFifo = s.rxFifo := rfl
@[simp] theorem seqEmit_scratch : (seqEmit l p s).scratch = { s.scratch with point := p } := rfl
@[simp] theorem seqEmit_urx : (seqEmit l p s).urx = s.urx := rfl
@[simp] theorem seqEmit_uartTx : (seqEmit l p s).uartTx = s.uartTx ++ [l] := rfl
@[simp] theorem seqEmit_dev : (seqEmit l p s).dev = s.dev := rfl
@[simp] theorem seqEmit_env : (seqEmit l p s).env = s.env := rfl
@[simp] theorem seqEmit_history : (seqEmit l p s).history = s.history ++ [.uartTx l] := rfl
@[simp] theorem seqEmit_link : (seqEmit l p s).link = s.link := rfl

end

/-! ### accept -/

section
variable (c : Command) (s : State)

@[simp] theorem accept_cfg : (accept c s).cfg = s.cfg := rfl
@[simp] theorem accept_seqState : (accept c s).seqState = .busy := rfl
@[simp] theorem accept_op : (accept c s).op = some c := rfl
@[simp] theorem accept_step : (accept c s).step = 0 := rfl
@[simp] theorem accept_attempt : (accept c s).attempt = s.attempt := rfl
@[simp] theorem accept_initialized : (accept c s).initialized = s.initialized := rfl
@[simp] theorem accept_curMode : (accept c s).curMode = s.curMode := rfl
@[simp] theorem accept_filtersLocked : (accept c s).filtersLocked = s.filtersLocked := rfl
@[simp] theorem accept_faultCode : (accept c s).faultCode = s.faultCode := rfl
@[simp] theorem accept_result : (accept c s).result = .none := rfl
@[simp] theorem accept_rxFifo : (accept c s).rxFifo = s.rxFifo := rfl
@[simp] theorem accept_scratch : (accept c s).scratch = Scratch.unwritten := rfl
@[simp] theorem accept_urx : (accept c s).urx = s.urx := rfl
@[simp] theorem accept_uartTx : (accept c s).uartTx = s.uartTx := rfl
@[simp] theorem accept_dev : (accept c s).dev = s.dev := rfl
@[simp] theorem accept_env : (accept c s).env = s.env := rfl
@[simp] theorem accept_history : (accept c s).history = s.history := rfl
@[simp] theorem accept_link : (accept c s).link = s.link := rfl

end

/-! ### finish -/

section
variable (o : Operation) (r : OpResult) (s : State)

@[simp] theorem finish_cfg : (finish o r s).cfg = s.cfg := rfl
@[simp] theorem finish_seqState : (finish o r s).seqState = .idle := rfl
@[simp] theorem finish_op : (finish o r s).op = s.op := rfl
@[simp] theorem finish_step : (finish o r s).step = 0 := rfl
@[simp] theorem finish_attempt : (finish o r s).attempt = s.attempt := rfl
@[simp] theorem finish_initialized : (finish o r s).initialized = s.initialized := rfl
@[simp] theorem finish_curMode : (finish o r s).curMode = s.curMode := rfl
@[simp] theorem finish_filtersLocked : (finish o r s).filtersLocked = s.filtersLocked := rfl
@[simp] theorem finish_faultCode : (finish o r s).faultCode = s.faultCode := rfl
@[simp] theorem finish_result : (finish o r s).result = r := rfl
@[simp] theorem finish_rxFifo : (finish o r s).rxFifo = s.rxFifo := rfl
@[simp] theorem finish_scratch : (finish o r s).scratch = s.scratch := rfl
@[simp] theorem finish_urx : (finish o r s).urx = s.urx := rfl
@[simp] theorem finish_uartTx : (finish o r s).uartTx = s.uartTx := rfl
@[simp] theorem finish_dev : (finish o r s).dev = s.dev := rfl
@[simp] theorem finish_env : (finish o r s).env = s.env := rfl
@[simp] theorem finish_history : (finish o r s).history = s.history ++ [.done o r] := rfl
@[simp] theorem finish_link : (finish o r s).link = s.link := rfl

end

/-! ### enterFault -/

section
variable (o : Operation) (e : ErrorCode) (info : Byte) (s : State)

@[simp] theorem enterFault_cfg : (enterFault o e info s).cfg = s.cfg := rfl
@[simp] theorem enterFault_seqState : (enterFault o e info s).seqState = .fault := rfl
@[simp] theorem enterFault_op : (enterFault o e info s).op = s.op := rfl
@[simp] theorem enterFault_step : (enterFault o e info s).step = 0 := rfl
@[simp] theorem enterFault_attempt : (enterFault o e info s).attempt = s.attempt := rfl
@[simp] theorem enterFault_initialized : (enterFault o e info s).initialized = s.initialized := rfl
@[simp] theorem enterFault_curMode : (enterFault o e info s).curMode = s.curMode := rfl
@[simp] theorem enterFault_filtersLocked : (enterFault o e info s).filtersLocked = s.filtersLocked := rfl
@[simp] theorem enterFault_faultCode : (enterFault o e info s).faultCode = errorCode e := rfl
@[simp] theorem enterFault_result : (enterFault o e info s).result = .err e info := rfl
@[simp] theorem enterFault_rxFifo : (enterFault o e info s).rxFifo = s.rxFifo := rfl
@[simp] theorem enterFault_scratch : (enterFault o e info s).scratch = s.scratch := rfl
@[simp] theorem enterFault_urx : (enterFault o e info s).urx = s.urx := rfl
@[simp] theorem enterFault_uartTx : (enterFault o e info s).uartTx = s.uartTx := rfl
@[simp] theorem enterFault_dev : (enterFault o e info s).dev = s.dev := rfl
@[simp] theorem enterFault_env : (enterFault o e info s).env = s.env := rfl
@[simp] theorem enterFault_history : (enterFault o e info s).history = s.history ++ [.done o (.err e info)] := rfl
@[simp] theorem enterFault_link : (enterFault o e info s).link = s.link := rfl

end

/-! ### completeFaulted -/

section
variable (o : Operation) (s : State)

@[simp] theorem completeFaulted_cfg : (completeFaulted o s).cfg = s.cfg := rfl
@[simp] theorem completeFaulted_seqState : (completeFaulted o s).seqState = s.seqState := rfl
@[simp] theorem completeFaulted_op : (completeFaulted o s).op = s.op := rfl
@[simp] theorem completeFaulted_step : (completeFaulted o s).step = s.step := rfl
@[simp] theorem completeFaulted_attempt : (completeFaulted o s).attempt = s.attempt := rfl
@[simp] theorem completeFaulted_initialized : (completeFaulted o s).initialized = s.initialized := rfl
@[simp] theorem completeFaulted_curMode : (completeFaulted o s).curMode = s.curMode := rfl
@[simp] theorem completeFaulted_filtersLocked : (completeFaulted o s).filtersLocked = s.filtersLocked := rfl
@[simp] theorem completeFaulted_faultCode : (completeFaulted o s).faultCode = s.faultCode := rfl
@[simp] theorem completeFaulted_result : (completeFaulted o s).result = .err .faulted 0x00 := rfl
@[simp] theorem completeFaulted_rxFifo : (completeFaulted o s).rxFifo = s.rxFifo := rfl
@[simp] theorem completeFaulted_scratch : (completeFaulted o s).scratch = s.scratch := rfl
@[simp] theorem completeFaulted_urx : (completeFaulted o s).urx = s.urx := rfl
@[simp] theorem completeFaulted_uartTx : (completeFaulted o s).uartTx = s.uartTx := rfl
@[simp] theorem completeFaulted_dev : (completeFaulted o s).dev = s.dev := rfl
@[simp] theorem completeFaulted_env : (completeFaulted o s).env = s.env := rfl
@[simp] theorem completeFaulted_history : (completeFaulted o s).history = s.history ++ [.done o (.err .faulted 0x00)] := rfl
@[simp] theorem completeFaulted_link : (completeFaulted o s).link = s.link := rfl

end

/-! ### blockReset -/

section
variable (s : State)

@[simp] theorem blockReset_cfg : (blockReset s).cfg = s.cfg := rfl
@[simp] theorem blockReset_seqState : (blockReset s).seqState = .idle := rfl
@[simp] theorem blockReset_op : (blockReset s).op = none := rfl
@[simp] theorem blockReset_step : (blockReset s).step = 0 := rfl
@[simp] theorem blockReset_attempt : (blockReset s).attempt = 0 := rfl
@[simp] theorem blockReset_initialized : (blockReset s).initialized = false := rfl
@[simp] theorem blockReset_curMode : (blockReset s).curMode = .unknown := rfl
@[simp] theorem blockReset_filtersLocked : (blockReset s).filtersLocked = false := rfl
@[simp] theorem blockReset_faultCode : (blockReset s).faultCode = 0x00 := rfl
@[simp] theorem blockReset_result : (blockReset s).result = .none := rfl
@[simp] theorem blockReset_rxFifo : (blockReset s).rxFifo = [] := rfl
@[simp] theorem blockReset_scratch : (blockReset s).scratch = Scratch.unwritten := rfl
@[simp] theorem blockReset_urx : (blockReset s).urx = Urx.reset := rfl
@[simp] theorem blockReset_uartTx : (blockReset s).uartTx = s.uartTx := rfl
@[simp] theorem blockReset_dev : (blockReset s).dev = s.dev := rfl
@[simp] theorem blockReset_env : (blockReset s).env = s.env := rfl
@[simp] theorem blockReset_history : (blockReset s).history = s.history ++ [.reset] := rfl
@[simp] theorem blockReset_link : (blockReset s).link = s.link := rfl

end

/-! ### takeOffer -/

section
variable (s : State)

@[simp] theorem takeOffer_cfg : (takeOffer s).cfg = s.cfg := rfl
@[simp] theorem takeOffer_seqState : (takeOffer s).seqState = s.seqState := rfl
@[simp] theorem takeOffer_op : (takeOffer s).op = s.op := rfl
@[simp] theorem takeOffer_step : (takeOffer s).step = s.step := rfl
@[simp] theorem takeOffer_attempt : (takeOffer s).attempt = s.attempt := rfl
@[simp] theorem takeOffer_initialized : (takeOffer s).initialized = s.initialized := rfl
@[simp] theorem takeOffer_curMode : (takeOffer s).curMode = s.curMode := rfl
@[simp] theorem takeOffer_filtersLocked : (takeOffer s).filtersLocked = s.filtersLocked := rfl
@[simp] theorem takeOffer_faultCode : (takeOffer s).faultCode = s.faultCode := rfl
@[simp] theorem takeOffer_result : (takeOffer s).result = s.result := rfl
@[simp] theorem takeOffer_rxFifo : (takeOffer s).rxFifo = s.rxFifo := rfl
@[simp] theorem takeOffer_scratch : (takeOffer s).scratch = s.scratch := rfl
@[simp] theorem takeOffer_urx : (takeOffer s).urx = s.urx := rfl
@[simp] theorem takeOffer_uartTx : (takeOffer s).uartTx = s.uartTx := rfl
@[simp] theorem takeOffer_dev : (takeOffer s).dev = s.dev := rfl
@[simp] theorem takeOffer_env : (takeOffer s).env = { s.env with hostPort := none } := rfl
@[simp] theorem takeOffer_history : (takeOffer s).history = s.history := rfl
@[simp] theorem takeOffer_link : (takeOffer s).link = s.link := rfl

end

/-! ### forgetDevice -/

section
variable (s : State)

@[simp] theorem forgetDevice_cfg : (forgetDevice s).cfg = s.cfg := rfl
@[simp] theorem forgetDevice_seqState : (forgetDevice s).seqState = s.seqState := rfl
@[simp] theorem forgetDevice_op : (forgetDevice s).op = s.op := rfl
@[simp] theorem forgetDevice_step : (forgetDevice s).step = s.step := rfl
@[simp] theorem forgetDevice_attempt : (forgetDevice s).attempt = s.attempt := rfl
@[simp] theorem forgetDevice_initialized : (forgetDevice s).initialized = false := rfl
@[simp] theorem forgetDevice_curMode : (forgetDevice s).curMode = .unknown := rfl
@[simp] theorem forgetDevice_filtersLocked : (forgetDevice s).filtersLocked = false := rfl
@[simp] theorem forgetDevice_faultCode : (forgetDevice s).faultCode = s.faultCode := rfl
@[simp] theorem forgetDevice_result : (forgetDevice s).result = s.result := rfl
@[simp] theorem forgetDevice_rxFifo : (forgetDevice s).rxFifo = s.rxFifo := rfl
@[simp] theorem forgetDevice_scratch : (forgetDevice s).scratch = s.scratch := rfl
@[simp] theorem forgetDevice_urx : (forgetDevice s).urx = s.urx := rfl
@[simp] theorem forgetDevice_uartTx : (forgetDevice s).uartTx = s.uartTx := rfl
@[simp] theorem forgetDevice_dev : (forgetDevice s).dev = s.dev := rfl
@[simp] theorem forgetDevice_env : (forgetDevice s).env = s.env := rfl
@[simp] theorem forgetDevice_history : (forgetDevice s).history = s.history := rfl
@[simp] theorem forgetDevice_link : (forgetDevice s).link = s.link := rfl

end

/-! ### peerStep -/

section
variable (b : Byte) (s : State)

@[simp] theorem peerStep_cfg : (peerStep b s).cfg = s.cfg := rfl
@[simp] theorem peerStep_seqState : (peerStep b s).seqState = s.seqState := rfl
@[simp] theorem peerStep_op : (peerStep b s).op = s.op := rfl
@[simp] theorem peerStep_step : (peerStep b s).step = s.step := rfl
@[simp] theorem peerStep_attempt : (peerStep b s).attempt = s.attempt := rfl
@[simp] theorem peerStep_initialized : (peerStep b s).initialized = s.initialized := rfl
@[simp] theorem peerStep_curMode : (peerStep b s).curMode = s.curMode := rfl
@[simp] theorem peerStep_filtersLocked : (peerStep b s).filtersLocked = s.filtersLocked := rfl
@[simp] theorem peerStep_faultCode : (peerStep b s).faultCode = s.faultCode := rfl
@[simp] theorem peerStep_result : (peerStep b s).result = s.result := rfl
@[simp] theorem peerStep_rxFifo : (peerStep b s).rxFifo = s.rxFifo := rfl
@[simp] theorem peerStep_scratch : (peerStep b s).scratch = s.scratch := rfl
@[simp] theorem peerStep_urx : (peerStep b s).urx = s.urx := rfl
@[simp] theorem peerStep_uartTx : (peerStep b s).uartTx = s.uartTx := rfl
@[simp] theorem peerStep_dev : (peerStep b s).dev = s.dev := rfl
@[simp] theorem peerStep_env : (peerStep b s).env = { s.env with uartRx := s.env.uartRx ++ [b] } := rfl
@[simp] theorem peerStep_history : (peerStep b s).history = s.history := rfl
@[simp] theorem peerStep_link : (peerStep b s).link = s.link := rfl

end

/-! ### hostStep: the env field's value is `hostStep_cases` -/

section
variable (c : Command) (s : State)

@[simp] theorem hostStep_cfg : (hostStep c s).cfg = s.cfg := by unfold hostStep; split <;> rfl
@[simp] theorem hostStep_seqState : (hostStep c s).seqState = s.seqState := by unfold hostStep; split <;> rfl
@[simp] theorem hostStep_op : (hostStep c s).op = s.op := by unfold hostStep; split <;> rfl
@[simp] theorem hostStep_step : (hostStep c s).step = s.step := by unfold hostStep; split <;> rfl
@[simp] theorem hostStep_attempt : (hostStep c s).attempt = s.attempt := by unfold hostStep; split <;> rfl
@[simp] theorem hostStep_initialized : (hostStep c s).initialized = s.initialized := by unfold hostStep; split <;> rfl
@[simp] theorem hostStep_curMode : (hostStep c s).curMode = s.curMode := by unfold hostStep; split <;> rfl
@[simp] theorem hostStep_filtersLocked : (hostStep c s).filtersLocked = s.filtersLocked := by unfold hostStep; split <;> rfl
@[simp] theorem hostStep_faultCode : (hostStep c s).faultCode = s.faultCode := by unfold hostStep; split <;> rfl
@[simp] theorem hostStep_result : (hostStep c s).result = s.result := by unfold hostStep; split <;> rfl
@[simp] theorem hostStep_rxFifo : (hostStep c s).rxFifo = s.rxFifo := by unfold hostStep; split <;> rfl
@[simp] theorem hostStep_scratch : (hostStep c s).scratch = s.scratch := by unfold hostStep; split <;> rfl
@[simp] theorem hostStep_urx : (hostStep c s).urx = s.urx := by unfold hostStep; split <;> rfl
@[simp] theorem hostStep_uartTx : (hostStep c s).uartTx = s.uartTx := by unfold hostStep; split <;> rfl
@[simp] theorem hostStep_dev : (hostStep c s).dev = s.dev := by unfold hostStep; split <;> rfl
@[simp] theorem hostStep_history : (hostStep c s).history = s.history := by unfold hostStep; split <;> rfl
@[simp] theorem hostStep_link : (hostStep c s).link = s.link := by unfold hostStep; split <;> rfl

end

end Sys2Proof.Machine
end

