-- ==== Sys2Proof/Laws/Ops.lean ====
section
/-! SUPPORT. One lemma for each shared operation that says what it does: draws, transactions, completing,
raising, reading scratch, the mode-set check, and whose turn a step is. -/

namespace Sys2Proof.Machine

/-! ### Draws -/

/-- Where the environment has fixed enough bytes, exactly those are drawn (R60). -/
theorem drawBytes_given (xs rest : List Byte) (e : Env) (h : e.miso = xs ++ rest) :
    drawBytes xs.length e = (xs, { e with miso := rest }) := by
  induction xs generalizing e with
  | nil =>
    obtain ⟨t, p, u, m, x, c, b, d⟩ := e
    simp at h
    simp [drawBytes, h]
  | cons x xs ih =>
    have h1 : drawByte e = (x, { e with miso := xs ++ rest }) := by simp [drawByte, h]
    have h2 := ih { e with miso := xs ++ rest } rfl
    simp [drawBytes, h1, h2]

/-- A draw touches only the environment's bytes and their counter. -/
theorem drawBytes_keeps (n : Nat) (e : Env) :
    (drawBytes n e).2.turns = e.turns ∧ (drawBytes n e).2.hostPort = e.hostPort ∧
      (drawBytes n e).2.uartRx = e.uartRx ∧ (drawBytes n e).2.expiry = e.expiry ∧
      (drawBytes n e).2.expiryDraws = e.expiryDraws := by
  induction n generalizing e with
  | zero => simp [drawBytes]
  | succ n ih =>
    have h1 : (drawByte e).2.turns = e.turns ∧ (drawByte e).2.hostPort = e.hostPort ∧
        (drawByte e).2.uartRx = e.uartRx ∧ (drawByte e).2.expiry = e.expiry ∧
        (drawByte e).2.expiryDraws = e.expiryDraws := by
      unfold drawByte
      split <;> simp
    have h2 := ih (drawByte e).2
    simp only [drawBytes]
    exact ⟨h2.1.trans h1.1, h2.2.1.trans h1.2.1, h2.2.2.1.trans h1.2.2.1,
      h2.2.2.2.1.trans h1.2.2.2.1, h2.2.2.2.2.trans h1.2.2.2.2⟩

/-- An expiry draw is the environment's next one, else a free value (R151). -/
theorem drawExpiry_cases (e : Env) :
    (∃ b rest, e.expiry = b :: rest ∧ drawExpiry e = (b, { e with expiry := rest })) ∨
      (e.expiry = [] ∧
        drawExpiry e = (Config.freeExpiry e.expiryDraws, { e with expiryDraws := e.expiryDraws + 1 })) := by
  unfold drawExpiry
  cases h : e.expiry with
  | nil => exact .inr ⟨rfl, rfl⟩
  | cons b rest => exact .inl ⟨b, rest, rfl, rfl⟩

/-- A turn is the environment's next choice, else a free value (R15, R256). -/
theorem drawTurn_cases (e : Env) :
    (∃ t rest, e.turns = t :: rest ∧ drawTurn e = (t, { e with turns := rest })) ∨
      (e.turns = [] ∧
        drawTurn e = (Config.freeTurn e.turnDraws, { e with turnDraws := e.turnDraws + 1 })) := by
  unfold drawTurn
  cases h : e.turns with
  | nil => exact .inr ⟨rfl, rfl⟩
  | cons t rest => exact .inl ⟨t, rest, rfl, rfl⟩

/-! ### Transactions -/

/-- With nothing assumed of the device, a transaction draws its bytes and leaves the device's data. -/
theorem deviceXfer_any (tx : List Byte) (d : Device) (e : Env) (h : d.law = .any) :
    deviceXfer tx d e = ⟨(drawBytes tx.length e).1, d, (drawBytes tx.length e).2⟩ := by
  unfold deviceXfer
  rw [h]

/-- A transaction touches only the environment's bytes and their counter. -/
theorem deviceXfer_keeps (tx : List Byte) (d : Device) (e : Env) :
    (deviceXfer tx d e).env.turns = e.turns ∧ (deviceXfer tx d e).env.hostPort = e.hostPort ∧
      (deviceXfer tx d e).env.uartRx = e.uartRx ∧ (deviceXfer tx d e).env.expiry = e.expiry ∧
      (deviceXfer tx d e).env.expiryDraws = e.expiryDraws := by
  have hb : ∀ e, (drawByte e).2.turns = e.turns ∧ (drawByte e).2.hostPort = e.hostPort ∧
      (drawByte e).2.uartRx = e.uartRx ∧ (drawByte e).2.expiry = e.expiry ∧
      (drawByte e).2.expiryDraws = e.expiryDraws := by
    intro e
    unfold drawByte
    split <;> simp
  unfold deviceXfer
  split
  · exact drawBytes_keeps _ _
  · exact drawBytes_keeps _ _
  · have h1 := hb e
    have h2 := drawBytes_keeps tx.length (drawByte e).2
    exact ⟨h2.1.trans h1.1, h2.2.1.trans h1.2.1, h2.2.2.1.trans h1.2.2.1,
      h2.2.2.2.1.trans h1.2.2.2.1, h2.2.2.2.2.trans h1.2.2.2.2⟩

theorem seqXfer_eq (tx : List Byte) (p : Point) (s : State) : seqXfer tx p s = afterXfer tx p s := rfl

theorem seqEmit_eq (l : List Byte) (p : Point) (s : State) : seqEmit l p s = afterEmit l p s := rfl

theorem portTransaction_eq (tx : List Byte) (s : State) :
    portTransaction tx s = .next (afterPort tx s) := rfl

/-! ### Completing and raising -/

theorem finishOk_eq (i : Instr) (v : Value) (s : State) : finishOk i v s = afterReturn i v s := rfl

/-- An error that is not fatal ends the operation with its result (R251). -/
theorem raiseOp_nonfatal {e : ErrorCode} (i : Instr) (info : Byte) (s : State)
    (h : errorFatal e = false) : raiseOp i e info s = afterError (.legal i) e info s := by
  simp [raiseOp, raiseError, h, afterError, finish]

/-- A fatal error enters FAULT with its code (R253). -/
theorem raiseOp_fatal {e : ErrorCode} (i : Instr) (info : Byte) (s : State)
    (h : errorFatal e = true) : raiseOp i e info s = afterFatal i e (errorCode e) info s := by
  simp [raiseOp, raiseError, h, afterFatal, enterFault]

theorem unlessFault_run (i : Instr) {s : State}
    (rule : Point → Host.Outcome State Fault Refusal) (h : s.seqState ≠ .fault) :
    unlessFault i s rule = rule s.scratch.point := by
  simp [unlessFault, h]

theorem unlessFault_fault (i : Instr) {s : State}
    (rule : Point → Host.Outcome State Fault Refusal) (h : s.seqState = .fault) :
    unlessFault i s rule = .next (completeFaulted (.legal i) s) := by
  simp [unlessFault, h]

/-- A scratch read that goes on has found a written field (R31). -/
theorem readScratch_next {α : Type} {x : Option α}
    {rule : α → Host.Outcome State Fault Refusal} {t : State} (h : readScratch x rule = .next t) :
    ∃ a, x = some a ∧ rule a = .next t := by
  cases x with
  | none => cases h
  | some a => exact ⟨a, rfl, h⟩

@[simp] theorem readScratch_some {α : Type} (a : α)
    (rule : α → Host.Outcome State Fault Refusal) : readScratch (some a) rule = rule a := rfl

/-! ### The mode-set check -/

/-- Everything a poll of ModeSet can lead to (R150, R151). -/
theorem modeCheck_cases (m : Mode) (c : ModeCall) (b : Byte) (s : State) :
    (b.extractLsb' 5 3 = modeCode m ∧
        modeCheck m c b s = .confirmed { s with attempt := 0, curMode := .known m }) ∨
      (b.extractLsb' 5 3 ≠ modeCode m ∧
        (((drawExpiry s.env).1 = false ∧
            modeCheck m c b s =
              .going (afterXfer modePollFrame (.modePolled c) { s with env := (drawExpiry s.env).2 })) ∨
          ((drawExpiry s.env).1 = true ∧ s.attempt < Config.modeAttempts ∧
            modeCheck m c b s =
              .going (afterXfer (modeWriteFrame m) (.modeWritten c)
                { s with env := (drawExpiry s.env).2, attempt := s.attempt + 1 })) ∨
          ((drawExpiry s.env).1 = true ∧ ¬ s.attempt < Config.modeAttempts ∧
            modeCheck m c b s = .exhausted { s with env := (drawExpiry s.env).2, attempt := 0 }))) := by
  by_cases h : b.extractLsb' 5 3 = modeCode m
  · exact .inl ⟨h, by simp [modeCheck, h]⟩
  · refine .inr ⟨h, ?_⟩
    cases hd : (drawExpiry s.env).1 with
    | false => exact .inl ⟨rfl, by simp [modeCheck, h, hd, modePoll, seqXfer_eq]⟩
    | true =>
      by_cases ha : s.attempt < Config.modeAttempts
      · exact .inr (.inl ⟨rfl, ha, by simp [modeCheck, h, hd, ha, modeAttempt, seqXfer_eq]⟩)
      · exact .inr (.inr ⟨rfl, ha, by simp [modeCheck, h, hd, ha]⟩)

/-! ### Whose turn it is -/

/-- What a step is, by whose turn it is (log 3). -/
theorem step_cases (s : State) :
    (∃ frame, s.link = some frame ∧ step s = linkStep frame s) ∨
      (s.link = none ∧ step s = turnStep (drawTurn s.env).1 { s with env := (drawTurn s.env).2 }) := by
  unfold step agentStep
  cases hl : s.link with
  | some frame => exact .inl ⟨frame, rfl, rfl⟩
  | none => exact .inr ⟨rfl, rfl⟩

/-- Where the environment has chosen who moves, that agent does. -/
theorem step_chosen {s : State} {t : Turn} {rest : List Turn} (hl : s.link = none)
    (ht : s.env.turns = t :: rest) : step s = turnStep t { s with env := { s.env with turns := rest } } := by
  simp [step, agentStep, hl, drawTurn, ht]

/-- The host's step: the port takes an operation where it is free, and holds the one it has (R21). -/
theorem hostStep_cases (c : Command) (s : State) :
    (s.env.hostPort = none ∧ isOperation c = true ∧
        hostStep c s = { s with env := { s.env with hostPort := some c } }) ∨
      hostStep c s = s := by
  unfold hostStep
  split
  · rename_i h
    exact .inl ⟨h.1, h.2, rfl⟩
  · exact .inr rfl

/-- A SEQ step of a BUSY block whose operation decodes is that operation's meaning (R23). -/
theorem seqStep_busy {s : State} {c : Command} {i : Instr} (hb : s.seqState = .busy)
    (hop : s.op = some c) (hd : decodeHost c = .ok i) : seqStep s = exec i s := by
  simp [seqStep, hb, busyStep, hop, hd]

end Sys2Proof.Machine
end

