-- ==== Sys2Proof/Laws/PerInstr.lean ====
section
/-! SUPPORT. A property of every instruction as syntax: its encoding starts with a byte of its row of
spec/opcode_table.json. The rows' numbers stand here as the table has them. -/

namespace Sys2Proof

/-- The `match` and `mask` of an instruction's row of spec/opcode_table.json. -/
def Laws.tableRow : Instr → Byte × Byte
  | .getStatus => (0x01, 0xFF)
  | .encId _ _ => (0x10, 0xFF)
  | .decId _ => (0x11, 0xFF)
  | .encDlc _ _ => (0x12, 0xFF)
  | .decDlc _ => (0x13, 0xFF)
  | .encFrame _ => (0x14, 0xFF)
  | .decFrame _ => (0x15, 0xFF)
  | .uartCks _ _ => (0x20, 0xFF)
  | .uartBuild _ _ => (0x21, 0xFF)
  | .uartSend _ _ => (0x22, 0xFF)
  | .uartParse _ => (0x23, 0xFF)
  | .spiReset => (0x30, 0xFF)
  | .regRead _ _ => (0x31, 0xFF)
  | .regWrite _ _ => (0x32, 0xFF)
  | .bitModify _ _ _ => (0x33, 0xFF)
  | .readStatus => (0x34, 0xFF)
  | .rxStatus => (0x35, 0xFF)
  | .rts _ => (0x36, 0xFF)
  | .loadTx _ _ => (0x37, 0xFF)
  | .readRx _ _ => (0x38, 0xFF)
  | .init _ _ _ _ => (0x40, 0xFF)
  | .setMode _ => (0x41, 0xFF)
  | .send _ => (0x42, 0xFF)
  | .pollReceive => (0x43, 0xFF)
  | .busState => (0x44, 0xFF)
  | .listen _ => (0x45, 0xFF)
  | .spiInstrReset => (0xC0, 0xFF)
  | .spiRead _ _ => (0x03, 0xFF)
  | .spiReadRxBuffer _ _ _ => (0x90, 0xF9)
  | .spiWrite _ _ => (0x02, 0xFF)
  | .spiLoadTxBuffer _ _ => (0x40, 0xF8)
  | .spiRts _ => (0x80, 0xF8)
  | .spiReadStatus => (0xA0, 0xFF)
  | .spiRxStatus => (0xB0, 0xFF)
  | .spiBitModify _ _ _ => (0x05, 0xFF)

/-- The opcode of a command, the first MOSI byte of a frame. -/
def Laws.firstByte : Encoding → Option Byte
  | .host c => some c.opcode
  | .spi frame => frame.head?

/-- The encoding's first byte has the fixed bits of the instruction's row (R90, R92). -/
def Laws.FirstByte.Statement (i : Instr) : Prop :=
  (Laws.firstByte (encode i)).map (fun b => b &&& (Laws.tableRow i).2) = some (Laws.tableRow i).1

/-- The field bits of READ RX BUFFER lie outside its fixed bits. -/
theorem Laws.readRxByte_fixed (n m : Bool) : readRxByte n m &&& 0xF9 = 0x90 := by
  revert n m; decide

/-- The field bits of LOAD TX BUFFER lie outside its fixed bits. -/
theorem Laws.loadTxByte_fixed (abc : BitVec 3) : loadTxByte abc &&& 0xF8 = 0x40 := by
  revert abc; decide

/-- The field bits of RTS lie outside its fixed bits. -/
theorem Laws.rtsByte_fixed (t : BitVec 3) : rtsByte t &&& 0xF8 = 0x80 := by
  revert t; decide

theorem Laws.FirstByte.getStatus : Laws.FirstByte.Statement (.getStatus) :=
  congrArg some (show (0x01 : Byte) &&& 0xFF = 0x01 by decide)

theorem Laws.FirstByte.encId : ∀ id ext, Laws.FirstByte.Statement (.encId id ext) :=
  fun _ _ => congrArg some (show (0x10 : Byte) &&& 0xFF = 0x10 by decide)

theorem Laws.FirstByte.decId : ∀ img, Laws.FirstByte.Statement (.decId img) :=
  fun _ => congrArg some (show (0x11 : Byte) &&& 0xFF = 0x11 by decide)

theorem Laws.FirstByte.encDlc : ∀ n rtr, Laws.FirstByte.Statement (.encDlc n rtr) :=
  fun _ _ => congrArg some (show (0x12 : Byte) &&& 0xFF = 0x12 by decide)

theorem Laws.FirstByte.decDlc : ∀ b, Laws.FirstByte.Statement (.decDlc b) :=
  fun _ => congrArg some (show (0x13 : Byte) &&& 0xFF = 0x13 by decide)

theorem Laws.FirstByte.encFrame : ∀ f, Laws.FirstByte.Statement (.encFrame f) :=
  fun _ => congrArg some (show (0x14 : Byte) &&& 0xFF = 0x14 by decide)

theorem Laws.FirstByte.decFrame : ∀ img, Laws.FirstByte.Statement (.decFrame img) :=
  fun _ => congrArg some (show (0x15 : Byte) &&& 0xFF = 0x15 by decide)

theorem Laws.FirstByte.uartCks : ∀ t p, Laws.FirstByte.Statement (.uartCks t p) :=
  fun _ _ => congrArg some (show (0x20 : Byte) &&& 0xFF = 0x20 by decide)

theorem Laws.FirstByte.uartBuild : ∀ t p, Laws.FirstByte.Statement (.uartBuild t p) :=
  fun _ _ => congrArg some (show (0x21 : Byte) &&& 0xFF = 0x21 by decide)

theorem Laws.FirstByte.uartSend : ∀ t p, Laws.FirstByte.Statement (.uartSend t p) :=
  fun _ _ => congrArg some (show (0x22 : Byte) &&& 0xFF = 0x22 by decide)

theorem Laws.FirstByte.uartParse : ∀ l, Laws.FirstByte.Statement (.uartParse l) :=
  fun _ => congrArg some (show (0x23 : Byte) &&& 0xFF = 0x23 by decide)

theorem Laws.FirstByte.spiReset : Laws.FirstByte.Statement (.spiReset) :=
  congrArg some (show (0x30 : Byte) &&& 0xFF = 0x30 by decide)

theorem Laws.FirstByte.regRead : ∀ a n, Laws.FirstByte.Statement (.regRead a n) :=
  fun _ _ => congrArg some (show (0x31 : Byte) &&& 0xFF = 0x31 by decide)

theorem Laws.FirstByte.regWrite : ∀ a d, Laws.FirstByte.Statement (.regWrite a d) :=
  fun _ _ => congrArg some (show (0x32 : Byte) &&& 0xFF = 0x32 by decide)

theorem Laws.FirstByte.bitModify : ∀ a m d, Laws.FirstByte.Statement (.bitModify a m d) :=
  fun _ _ _ => congrArg some (show (0x33 : Byte) &&& 0xFF = 0x33 by decide)

theorem Laws.FirstByte.readStatus : Laws.FirstByte.Statement (.readStatus) :=
  congrArg some (show (0x34 : Byte) &&& 0xFF = 0x34 by decide)

theorem Laws.FirstByte.rxStatus : Laws.FirstByte.Statement (.rxStatus) :=
  congrArg some (show (0x35 : Byte) &&& 0xFF = 0x35 by decide)

theorem Laws.FirstByte.rts : ∀ t, Laws.FirstByte.Statement (.rts t) :=
  fun _ => congrArg some (show (0x36 : Byte) &&& 0xFF = 0x36 by decide)

theorem Laws.FirstByte.loadTx : ∀ sel d, Laws.FirstByte.Statement (.loadTx sel d) :=
  fun _ _ => congrArg some (show (0x37 : Byte) &&& 0xFF = 0x37 by decide)

theorem Laws.FirstByte.readRx : ∀ sel n, Laws.FirstByte.Statement (.readRx sel n) :=
  fun _ _ => congrArg some (show (0x38 : Byte) &&& 0xFF = 0x38 by decide)

theorem Laws.FirstByte.init : ∀ b c m q, Laws.FirstByte.Statement (.init b c m q) :=
  fun _ _ _ _ => congrArg some (show (0x40 : Byte) &&& 0xFF = 0x40 by decide)

theorem Laws.FirstByte.setMode : ∀ m, Laws.FirstByte.Statement (.setMode m) :=
  fun _ => congrArg some (show (0x41 : Byte) &&& 0xFF = 0x41 by decide)

theorem Laws.FirstByte.send : ∀ f, Laws.FirstByte.Statement (.send f) :=
  fun _ => congrArg some (show (0x42 : Byte) &&& 0xFF = 0x42 by decide)

theorem Laws.FirstByte.pollReceive : Laws.FirstByte.Statement (.pollReceive) :=
  congrArg some (show (0x43 : Byte) &&& 0xFF = 0x43 by decide)

theorem Laws.FirstByte.busState : Laws.FirstByte.Statement (.busState) :=
  congrArg some (show (0x44 : Byte) &&& 0xFF = 0x44 by decide)

theorem Laws.FirstByte.listen : ∀ fs, Laws.FirstByte.Statement (.listen fs) :=
  fun _ => congrArg some (show (0x45 : Byte) &&& 0xFF = 0x45 by decide)

theorem Laws.FirstByte.spiInstrReset : Laws.FirstByte.Statement (.spiInstrReset) :=
  congrArg some (show (0xC0 : Byte) &&& 0xFF = 0xC0 by decide)

theorem Laws.FirstByte.spiRead : ∀ a n, Laws.FirstByte.Statement (.spiRead a n) :=
  fun _ _ => congrArg some (show (0x03 : Byte) &&& 0xFF = 0x03 by decide)

theorem Laws.FirstByte.spiReadRxBuffer : ∀ n m count, Laws.FirstByte.Statement (.spiReadRxBuffer n m count) :=
  fun n m _ => congrArg some (Laws.readRxByte_fixed n m)

theorem Laws.FirstByte.spiWrite : ∀ a d, Laws.FirstByte.Statement (.spiWrite a d) :=
  fun _ _ => congrArg some (show (0x02 : Byte) &&& 0xFF = 0x02 by decide)

theorem Laws.FirstByte.spiLoadTxBuffer : ∀ abc d, Laws.FirstByte.Statement (.spiLoadTxBuffer abc d) :=
  fun abc _ => congrArg some (Laws.loadTxByte_fixed abc)

theorem Laws.FirstByte.spiRts : ∀ t, Laws.FirstByte.Statement (.spiRts t) :=
  fun t => congrArg some (Laws.rtsByte_fixed t)

theorem Laws.FirstByte.spiReadStatus : Laws.FirstByte.Statement (.spiReadStatus) :=
  congrArg some (show (0xA0 : Byte) &&& 0xFF = 0xA0 by decide)

theorem Laws.FirstByte.spiRxStatus : Laws.FirstByte.Statement (.spiRxStatus) :=
  congrArg some (show (0xB0 : Byte) &&& 0xFF = 0xB0 by decide)

theorem Laws.FirstByte.spiBitModify : ∀ a m d, Laws.FirstByte.Statement (.spiBitModify a m d) :=
  fun _ _ _ => congrArg some (show (0x05 : Byte) &&& 0xFF = 0x05 by decide)

end Sys2Proof
end

