-- ==== Sys2Proof/Machine/Asm.lean ====
section
/-! DEFINITION. The text syntax of host operations (spec/30_encoding.md rule R104) and the
pseudo-operations (rule R105): a line is a mnemonic and its operands in the order of R90. Log 27. -/

namespace Sys2Proof.Machine

/-- The pieces of a line. -/
inductive Token where
  | word (w : List Char)
  | comma | semi | slash
  | lbrack | rbrack | lbrace | rbrace
deriving DecidableEq, Repr

/-- The piece a separator character is. -/
def separator (c : Char) : Option Token :=
  if c = ',' then some .comma
  else if c = ';' then some .semi
  else if c = '/' then some .slash
  else if c = '[' then some .lbrack
  else if c = ']' then some .rbrack
  else if c.toNat = 123 then some .lbrace
  else if c.toNat = 125 then some .rbrace
  else none

/-- The word read so far (its characters reversed), if any, before the pieces that follow. -/
def flushWord (acc : List Char) (rest : List Token) : List Token :=
  match acc with
  | [] => rest
  | _ => .word acc.reverse :: rest

/-- A line's pieces; `acc` is the word being read, reversed. -/
def tokens : List Char → List Char → List Token
  | [], acc => flushWord acc []
  | c :: cs, acc =>
    if c = ' ' then flushWord acc (tokens cs [])
    else
      match separator c with
      | some t => flushWord acc (t :: tokens cs [])
      | none => tokens cs (c :: acc)

/-- A digit's value in a base up to 16. -/
def digitValue (base : Nat) (c : Char) : Option Nat :=
  let v :=
    if '0' ≤ c ∧ c ≤ '9' then c.toNat - 48
    else if 'a' ≤ c ∧ c ≤ 'f' then c.toNat - 87
    else if 'A' ≤ c ∧ c ≤ 'F' then c.toNat - 55
    else 16
  if v < base then some v else none

/-- A digit string's value, `acc` being the digits before it. -/
def digitsValue (base : Nat) : List Char → Nat → Option Nat
  | [], acc => some acc
  | c :: cs, acc => (digitValue base c).bind fun v => digitsValue base cs (acc * base + v)

/-- A number: hexadecimal, binary (as the rules' examples write RTS) or decimal (R104). -/
def numberOf : List Char → Option Nat
  | [] => none
  | ['0'] => some 0
  | '0' :: 'x' :: c :: cs => digitsValue 16 (c :: cs) 0
  | '0' :: 'b' :: c :: cs => digitsValue 2 (c :: cs) 0
  | cs => digitsValue 10 cs 0

/-- A number below `2^w`. -/
def bitsOf (w : Nat) (cs : List Char) : Option (BitVec w) :=
  (numberOf cs).bind fun n => if n < 2 ^ w then some (BitVec.ofNat w n) else none

/-- A word that is one of two names for a Boolean. -/
def flagOf (no yes : String) (cs : List Char) : Option Bool :=
  if String.ofList cs = no then some false
  else if String.ofList cs = yes then some true
  else none

/-- A mode's name (R104). -/
def modeOf (cs : List Char) : Option Mode :=
  if String.ofList cs = "normal" then some .normal
  else if String.ofList cs = "loopback" then some .loopback
  else if String.ofList cs = "listen_only" then some .listenOnly
  else if String.ofList cs = "config" then some .config
  else none

/-- The bytes of a list from its first byte on, and the pieces after its closing bracket. A comma must be
followed by a byte: R104's form is `[b0, b1, ...]` (log 27). -/
def bytesFrom : List Token → Option (List Byte × List Token)
  | .word w :: .rbrack :: rest => (bitsOf 8 w).map fun b => ([b], rest)
  | .word w :: .comma :: rest =>
    (bitsOf 8 w).bind fun b => (bytesFrom rest).map fun r => (b :: r.1, r.2)
  | _ => none

/-- The bytes of a list after its opening bracket, and the pieces after its closing one. -/
def byteList : List Token → Option (List Byte × List Token)
  | .rbrack :: rest => some ([], rest)
  | ts => bytesFrom ts

/-- A byte list that ends the line. -/
def byteListEnd (ts : List Token) : Option (List Byte) :=
  match ts with
  | .lbrack :: rest => (byteList rest).bind fun r => if r.2 = [] then some r.1 else none
  | _ => none

/-- An `id/std` or `id/ext` entry (R104). -/
def specOf (id width : List Char) : Option IdSpec :=
  (bitsOf 29 id).bind fun v => (flagOf "std" "ext" width).map fun e => ⟨v, e⟩

/-- A frame that ends the line (R104). -/
def frameEnd : List Token → Option CanFrame
  | .lbrace :: .word id :: .comma :: .word width :: .comma :: .word remote :: .comma :: .lbrack :: rest =>
    (bitsOf 29 id).bind fun v =>
      (flagOf "std" "ext" width).bind fun e =>
        (flagOf "data" "rtr" remote).bind fun r =>
          (byteList rest).bind fun l => if l.2 = [.rbrace] then some ⟨v, e, r, l.1⟩ else none
  | _ => none

/-- An `id/width` entry and the piece that must follow it (R104). -/
def specThen (sep : Token) (ts : List Token) : Option (IdSpec × List Token) :=
  match ts with
  | .word a :: .slash :: .word b :: t :: rest =>
    if t = sep then (specOf a b).map fun x => (x, rest) else none
  | _ => none

/-- A filter set that ends the line: `empty`, or two masks, a semicolon and six filters in braces (R104). -/
def filtersEnd (ts : List Token) : Option FilterSet :=
  match ts with
  | [.word w] => if String.ofList w = "empty" then some .empty else none
  | .lbrace :: rest =>
    (specThen .comma rest).bind fun m0 => (specThen .semi m0.2).bind fun m1 =>
      (specThen .comma m1.2).bind fun f0 => (specThen .comma f0.2).bind fun f1 =>
        (specThen .comma f1.2).bind fun f2 => (specThen .comma f2.2).bind fun f3 =>
          (specThen .comma f3.2).bind fun f4 => (specThen .rbrace f4.2).bind fun f5 =>
            if f5.2 = [] then some (.full ⟨m0.1, m1.1, f0.1, f1.1, f2.1, f3.1, f4.1, f5.1⟩) else none
  | _ => none

/-- The four bytes of an identifier image operand. -/
def idImageOf : List Byte → Option IdImage
  | [a, b, c, d] => some ⟨a, b, c, d⟩
  | _ => none

/-- The thirteen bytes of a buffer image operand. -/
def bufferImageOf : List Byte → Option BufferImage
  | [a, b, c, d, e, d0, d1, d2, d3, d4, d5, d6, d7] =>
    some ⟨⟨a, b, c, d⟩, e, d0, d1, d2, d3, d4, d5, d6, d7⟩
  | _ => none

/-- A byte and a byte list. -/
def byteAndBytes (ts : List Token) : Option (Byte × List Byte) :=
  match ts with
  | .word a :: .comma :: rest => (bitsOf 8 a).bind fun v => (byteListEnd rest).map fun l => (v, l)
  | _ => none

/-- The operation a mnemonic and its operands' pieces stand for (R90, R104, R105). -/
def operationOf (mnemonic : String) (ts : List Token) : Option Instr :=
  match ts with
  | [] =>
    if mnemonic = "GET_STATUS" then some .getStatus
    else if mnemonic = "SPI_RESET" then some .spiReset
    else if mnemonic = "READ_STATUS" then some .readStatus
    else if mnemonic = "RX_STATUS" then some .rxStatus
    else if mnemonic = "POLL_RECEIVE" then some .pollReceive
    else if mnemonic = "BUS_STATE" then some .busState
    else none
  | _ =>
    if mnemonic = "ENC_ID" then
      match ts with
      | [.word a, .comma, .word b] =>
        (bitsOf 29 a).bind fun v => (flagOf "std" "ext" b).map fun e => .encId v e
      | _ => none
    else if mnemonic = "DEC_ID" then ((byteListEnd ts).bind idImageOf).map .decId
    else if mnemonic = "ENC_DLC" then
      match ts with
      | [.word a, .comma, .word b] =>
        (bitsOf 8 a).bind fun v => (flagOf "data" "rtr" b).map fun r => .encDlc v r
      | _ => none
    else if mnemonic = "DEC_DLC" then
      match ts with
      | [.word a] => (bitsOf 8 a).map .decDlc
      | _ => none
    else if mnemonic = "ENC_FRAME" then (frameEnd ts).map .encFrame
    else if mnemonic = "DEC_FRAME" then ((byteListEnd ts).bind bufferImageOf).map .decFrame
    else if mnemonic = "UART_CKS" then (byteAndBytes ts).map fun r => .uartCks r.1 r.2
    else if mnemonic = "UART_BUILD" then (byteAndBytes ts).map fun r => .uartBuild r.1 r.2
    else if mnemonic = "UART_SEND" then (byteAndBytes ts).map fun r => .uartSend r.1 r.2
    else if mnemonic = "UART_PARSE" then (byteListEnd ts).map .uartParse
    else if mnemonic = "REG_READ" then
      match ts with
      | [.word a, .comma, .word b] => (bitsOf 8 a).bind fun v => (numberOf b).map fun n => .regRead v n
      | _ => none
    else if mnemonic = "REG_WRITE" then (byteAndBytes ts).map fun r => .regWrite r.1 r.2
    else if mnemonic = "BIT_MODIFY" then
      match ts with
      | [.word a, .comma, .word b, .comma, .word c] =>
        (bitsOf 8 a).bind fun v => (bitsOf 8 b).bind fun m => (bitsOf 8 c).map fun d => .bitModify v m d
      | _ => none
    else if mnemonic = "RTS" then
      match ts with
      | [.word a] => (bitsOf 8 a).map .rts
      | _ => none
    else if mnemonic = "LOAD_TX" then (byteAndBytes ts).map fun r => .loadTx r.1 r.2
    else if mnemonic = "READ_RX" then
      match ts with
      | [.word a, .comma, .word b] => (bitsOf 8 a).bind fun v => (numberOf b).map fun n => .readRx v n
      | _ => none
    else if mnemonic = "INIT" then
      match ts with
      | [.word a, .comma, .word b, .comma, .word c, .comma, .word d] =>
        (numberOf a).bind fun r => (numberOf b).bind fun x =>
          (modeOf c).bind fun m => (flagOf "loud" "silent" d).map fun q => .init r x m q
      | _ => none
    else if mnemonic = "SET_MODE" then
      match ts with
      | [.word a] => (modeOf a).map .setMode
      | _ => none
    else if mnemonic = "SEND" then (frameEnd ts).map .send
    else if mnemonic = "LISTEN" then (filtersEnd ts).map .listen
    else if mnemonic = "REG_READ1" then
      match ts with
      | [.word a] => (bitsOf 8 a).map Instr.regRead1
      | _ => none
    else if mnemonic = "REG_WRITE1" then
      match ts with
      | [.word a, .comma, .word b] => (bitsOf 8 a).bind fun v => (bitsOf 8 b).map fun x => .regWrite1 v x
      | _ => none
    else if mnemonic = "SET_BITS" then
      match ts with
      | [.word a, .comma, .word b] => (bitsOf 8 a).bind fun v => (bitsOf 8 b).map fun x => .setBits v x
      | _ => none
    else if mnemonic = "CLR_BITS" then
      match ts with
      | [.word a, .comma, .word b] => (bitsOf 8 a).bind fun v => (bitsOf 8 b).map fun x => .clrBits v x
      | _ => none
    else if mnemonic = "SEND_STD" then
      match ts with
      | .word a :: .comma :: rest => (bitsOf 29 a).bind fun v => (byteListEnd rest).map fun l => .sendStd v l
      | _ => none
    else if mnemonic = "SEND_EXT" then
      match ts with
      | .word a :: .comma :: rest => (bitsOf 29 a).bind fun v => (byteListEnd rest).map fun l => .sendExt v l
      | _ => none
    else none

/-- The host operation a line of text stands for; none where it is no line of R104 or R105. -/
def assemble (line : String) : Option Instr :=
  match tokens line.toList [] with
  | .word m :: rest => operationOf (String.ofList m) rest
  | _ => none

end Sys2Proof.Machine
end

