-- ==== Sys2Proof/Tests/Slice0.lean ====
section
/-! SUPPORT. Tests. Expected values are those of the spec: the worked examples of its rules and the vectors
of spec/95_test_vectors.md (V, W, P numbers below), or written out by hand from the encoding tables. Each
test is one step or one decoding. The witnesses show that the hypotheses of each statement can be met. -/

namespace Sys2Proof.Tests

open Sys2Proof.Machine

/-! ### Well-formedness: an ill-formed term for each check -/

theorem test_wf_refuses :
    [Instr.encId 0x800 false, .encDlc 9 false, .encFrame ⟨0x800, false, false, []⟩,
      .encFrame ⟨0, false, false, List.replicate 9 0⟩,
      .regRead 0x80 1, .regRead 0 0, .regRead 0 17, .regRead 0x7F 2, .regWrite 0 [],
      .regWrite 0x7F [0, 0], .bitModify 0x80 0 0, .rts 0, .rts 8, .loadTx 6 [0], .loadTx 0 [],
      .loadTx 0 (List.replicate 14 0), .loadTx 1 (List.replicate 9 0), .readRx 4 1, .readRx 0 0,
      .readRx 0 14, .readRx 1 9, .init 0 0 .config false, .send ⟨0x800, false, false, []⟩,
      .listen (.full ⟨⟨0, false⟩, ⟨0, false⟩, ⟨0, false⟩, ⟨0, false⟩, ⟨0, false⟩, ⟨0, false⟩,
        ⟨0, false⟩, ⟨0x800, false⟩⟩),
      .spiLoadTxBuffer 0b110#3 [0], .spiLoadTxBuffer 0b111#3 []].all
      (fun i => !i.wf) = true := by decide

theorem test_wf_refuses_uart :
    Instr.wf (.uartCks 0 (List.replicate 256 0)) = false ∧
      Instr.wf (.uartBuild 0 (List.replicate 256 0)) = false ∧
      Instr.wf (.uartSend 0 (List.replicate 256 0)) = false := by
  simp only [Instr.wf, List.length_replicate]
  decide

theorem test_wf_accepts_bounds :
    [Instr.encId 0x7FF false, .encId 0x1FFFFFFF true, .encDlc 8 true, .regRead 0x7F 1, .regRead 0x70 16,
      .rts 7, .loadTx 5 (List.replicate 8 0), .loadTx 4 (List.replicate 13 0), .readRx 3 8,
      .readRx 2 13, .spiLoadTxBuffer 0b101#3 (List.replicate 80 0), .spiRts 0, .spiRead 0x80 0].all
      (fun i => i.wf) = true := by decide

/-! ### Decoding: every constructor from its encoding written out from R90 or R92 -/

theorem test_decode_status_codec :
    decode (.host ⟨0x01, []⟩) = .ok .getStatus ∧
      decode (.host ⟨0x10, [.ident 0x123, .bool false]⟩) = .ok (.encId 0x123 false) ∧
      decode (.host ⟨0x11, [.idImage ⟨0x24, 0x60, 0x00, 0x00⟩]⟩) =
        .ok (.decId ⟨0x24, 0x60, 0x00, 0x00⟩) ∧
      decode (.host ⟨0x12, [.byte 8, .bool true]⟩) = .ok (.encDlc 8 true) ∧
      decode (.host ⟨0x13, [.byte 0x4F]⟩) = .ok (.decDlc 0x4F) ∧
      decode (.host ⟨0x14, [.frame ⟨1, true, false, [2]⟩]⟩) = .ok (.encFrame ⟨1, true, false, [2]⟩) ∧
      decode (.host ⟨0x15, [.bufferImage ⟨⟨1, 2, 3, 4⟩, 5, 6, 7, 8, 9, 10, 11, 12, 13⟩]⟩) =
        .ok (.decFrame ⟨⟨1, 2, 3, 4⟩, 5, 6, 7, 8, 9, 10, 11, 12, 13⟩) :=
  ⟨rfl, rfl, rfl, rfl, rfl, rfl, rfl⟩

theorem test_decode_uart :
    decode (.host ⟨0x20, [.byte 1, .bytes [2]]⟩) = .ok (.uartCks 1 [2]) ∧
      decode (.host ⟨0x21, [.byte 1, .bytes [2]]⟩) = .ok (.uartBuild 1 [2]) ∧
      decode (.host ⟨0x22, [.byte 1, .bytes [2]]⟩) = .ok (.uartSend 1 [2]) ∧
      decode (.host ⟨0x23, [.bytes [1, 2]]⟩) = .ok (.uartParse [1, 2]) :=
  ⟨rfl, rfl, rfl, rfl⟩

theorem test_decode_primitives :
    decode (.host ⟨0x30, []⟩) = .ok .spiReset ∧
      decode (.host ⟨0x31, [.byte 0x0E, .nat 1]⟩) = .ok (.regRead 0x0E 1) ∧
      decode (.host ⟨0x32, [.byte 0x2B, .bytes [3]]⟩) = .ok (.regWrite 0x2B [3]) ∧
      decode (.host ⟨0x33, [.byte 0x0F, .byte 0xE0, .byte 0x80]⟩) = .ok (.bitModify 0x0F 0xE0 0x80) ∧
      decode (.host ⟨0x34, []⟩) = .ok .readStatus ∧
      decode (.host ⟨0x35, []⟩) = .ok .rxStatus ∧
      decode (.host ⟨0x36, [.byte 2]⟩) = .ok (.rts 2) ∧
      decode (.host ⟨0x37, [.byte 2, .bytes [0x24]]⟩) = .ok (.loadTx 2 [0x24]) ∧
      decode (.host ⟨0x38, [.byte 0, .nat 13]⟩) = .ok (.readRx 0 13) :=
  ⟨rfl, rfl, rfl, rfl, rfl, rfl, rfl, rfl, rfl⟩

theorem test_decode_composites :
    decode (.host ⟨0x40, [.nat 500000, .nat 8000000, .mode .normal, .bool false]⟩) =
        .ok (.init 500000 8000000 .normal false) ∧
      decode (.host ⟨0x41, [.mode .loopback]⟩) = .ok (.setMode .loopback) ∧
      decode (.host ⟨0x42, [.frame ⟨1, true, false, [2]⟩]⟩) = .ok (.send ⟨1, true, false, [2]⟩) ∧
      decode (.host ⟨0x43, []⟩) = .ok .pollReceive ∧
      decode (.host ⟨0x44, []⟩) = .ok .busState ∧
      decode (.host ⟨0x45, [.filters .empty]⟩) = .ok (.listen .empty) :=
  ⟨rfl, rfl, rfl, rfl, rfl, rfl⟩

theorem test_decode_spi :
    decode (.spi [0b11000000#8]) = .ok .spiInstrReset ∧
      decode (.spi [0b00000011#8, 0x0E, 0x00]) = .ok (.spiRead 0x0E 1) ∧
      decode (.spi [0b10010100#8, 0x00, 0x00]) = .ok (.spiReadRxBuffer true false 2) ∧
      decode (.spi [0b00000010#8, 0x2B, 0x03]) = .ok (.spiWrite 0x2B [0x03]) ∧
      decode (.spi [0b01000101#8, 0xAA]) = .ok (.spiLoadTxBuffer 0b101#3 [0xAA]) ∧
      decode (.spi [0b10000010#8]) = .ok (.spiRts 0b010#3) ∧
      decode (.spi [0b10100000#8, 0x00]) = .ok .spiReadStatus ∧
      decode (.spi [0b10110000#8, 0x00]) = .ok .spiRxStatus ∧
      decode (.spi [0b00000101#8, 0x0F, 0xE0, 0x80]) = .ok (.spiBitModify 0x0F 0xE0 0x80) :=
  ⟨rfl, rfl, rfl, rfl, rfl, rfl, rfl, rfl, rfl⟩

/-- R96: the framing alone gives a READ or a WRITE its length. -/
theorem test_decode_lengths :
    decode (.spi (0x03 :: 0x10 :: List.replicate 17 0x00)) = .ok (.spiRead 0x10 17) ∧
      decode (.spi [0x03, 0x7F, 0x00, 0x00]) = .ok (.spiRead 0x7F 2) ∧
      decode (.spi [0x02, 0x2B]) = .ok (.spiWrite 0x2B []) ∧
      decode (.spi (0x90 :: List.replicate 14 0x00)) = .ok (.spiReadRxBuffer false false 14) :=
  ⟨rfl, rfl, rfl, rfl⟩

/-- Rejections by name: R91, R93, R96 (a wrong length of RESET and READ STATUS), a READ with no address or with
a byte that is not SPI_DUMMY. -/
theorem test_decode_refuses :
    decode (.host ⟨0x46, []⟩) = .error (.illegalOpcode 0x46) ∧
      decode (.host ⟨0x10, []⟩) = .error (.operandShape 0x10) ∧
      decode (.spi []) = .error .spiEmpty ∧ decode (.spi [0x91]) = .error (.spiUnknown 0x91) ∧
      decode (.spi [0x47, 0x00]) = .error (.spiFrame 0x47) ∧
      decode (.spi [0xA0]) = .error (.spiFrame 0xA0) ∧
      decode (.spi [0xC0, 0x00]) = .error (.spiFrame 0xC0) ∧
      decode (.spi [0x03]) = .error (.spiFrame 0x03) ∧
      decode (.spi [0x03, 0x0E, 0x01]) = .error (.spiFrame 0x03) :=
  ⟨rfl, rfl, rfl, rfl, rfl, rfl, rfl, rfl, rfl⟩

/-- A word of the opcode table: the byte alone, its operands zero (log 2). -/
theorem test_table_words :
    decodeTableWord 8 0x42 = some (.send ⟨0, false, false, []⟩) ∧
      decodeTableWord 8 0x05 = some (.spiBitModify 0 0 0) ∧ decodeTableWord 8 0x46 = none ∧
      decodeTableWord 16 0x42 = none := ⟨rfl, rfl, rfl, rfl⟩

/-! ### The text syntax (R104, R105) -/

/-- R104's second and third example, R127's example, and the pseudo-operations of R105. -/
theorem test_assemble :
    assemble "REG_WRITE 0x2B, [0x03]" = some (.regWrite 0x2B [0x03]) ∧
      assemble "INIT 500000, 8000000, normal, loud" = some (.init 500000 8000000 .normal false) ∧
      assemble "RTS 0b010" = some (.rts 2) ∧ assemble "SET_BITS 0x0F, 0x10" = some (.bitModify 0x0F 0x10 0x10) ∧
      assemble "CLR_BITS 0x0F, 0x10" = some (.bitModify 0x0F 0x10 0x00) ∧
      assemble "REG_READ1 14" = some (.regRead 0x0E 1) ∧
      assemble "REG_WRITE1 0x2B, 3" = some (.regWrite 0x2B [3]) ∧
      assemble "SEND_STD 0x520, [1, 2]" = some (.send ⟨0x520, false, false, [1, 2]⟩) ∧
      assemble "SEND_EXT 0x18FEF100, []" = some (.send ⟨0x18FEF100, true, false, []⟩) ∧
      assemble "LISTEN empty" = some (.listen .empty) ∧ assemble "SET_MODE sleep" = none ∧
      assemble "REG_WRITE 0x2B, [0x03,]" = none := by decide

/-- R104's first example; the braces are characters 123 and 125. -/
theorem test_assemble_frame :
    assemble ("SEND " ++ String.ofList [Char.ofNat 123] ++ "0x123, std, data, [0xDE, 0xAD]" ++
      String.ofList [Char.ofNat 125]) = some (.send ⟨0x123, false, false, [0xDE, 0xAD]⟩) := by decide

/-! ### One step of each instruction -/

/-- A machine with one bit rate, in IDLE. -/
def idle : State :=
  { State.reset with
    cfg :=
      { bitrateTable := [⟨500000, 8000000, 0x11, 0x22, 0x33⟩], checksumEnforce := true
        ackPolicy := .everyFrame, rtrSource := .dlc6 } }

/-- BUSY at a position. -/
def busyAt (p : Point) : State :=
  { idle with seqState := .busy, scratch := { Scratch.unwritten with point := p } }

/-- The same after an INIT into normal mode. -/
def readyAt (p : Point) : State := { busyAt p with initialized := true, curMode := .known .normal }

/-- The last transaction brought these bytes in. -/
def withRx (l : List Byte) (s : State) : State := { s with scratch := { s.scratch with rx := some l } }

/-- In FAULT by an invalid mode combination. -/
def faulted : State := { idle with seqState := .fault, faultCode := 0x11 }

/-- What a step shows: where SEQ stands, its result and the frames sent. -/
def shows (i : Instr) (s : State) : Option (SeqState × OpResult × List (List Byte)) :=
  match exec i s with
  | .next t => some (t.seqState, t.result, mosi t.history)
  | _ => none

/-- A step that ends its operation with a value, sending nothing. -/
abbrev Returns (i : Instr) (s : State) (v : Value) : Prop := shows i s = some (.idle, .ok v, [])

/-- A step that ends its operation with an error that is not fatal, sending nothing. -/
abbrev Fails (i : Instr) (s : State) (e : ErrorCode) (d : Byte) : Prop :=
  shows i s = some (.idle, .err e d, [])

/-- A step that sends one frame. -/
abbrev Sends (i : Instr) (s : State) (tx : List Byte) : Prop := shows i s = some (.busy, .none, [tx])

/-- R120's example. -/
theorem test_getStatus : Returns .getStatus (busyAt .start) (.status 0x0070) := by decide

/-- P4's last status: listen-only, filters locked, initialised. -/
theorem test_getStatus_locked :
    Returns .getStatus { readyAt .start with curMode := .known .listenOnly, filtersLocked := true }
      (.status 0x003C) := by decide

/-- R190's second example. -/
theorem test_encId :
    Returns (.encId 0x12345678 true) (busyAt .start) (.bytes [0x91, 0xA8, 0x56, 0x78]) := by decide

/-- R190's third example. -/
theorem test_encId_range : Fails (.encId 0x800 false) (busyAt .start) .idOutOfRange 0 := by decide

/-- R192's third example: the ignored bits. -/
theorem test_decId :
    Returns (.decId ⟨0x24, 0x73, 0xAA, 0x55⟩) (busyAt .start) (.ident 0x123 false) := by decide

/-- R192's second example. -/
theorem test_decId_ext :
    Returns (.decId ⟨0xFF, 0xEB, 0xFF, 0xFF⟩) (busyAt .start) (.ident 0x1FFFFFFF true) := by decide

/-- R194's first example. -/
theorem test_encDlc : Returns (.encDlc 8 true) (busyAt .start) (.byte 0x48) := by decide

/-- R194's third example. -/
theorem test_encDlc_long : Fails (.encDlc 9 false) (busyAt .start) .payloadTooLong 9 := by decide

/-- R195's first example. -/
theorem test_decDlc : Returns (.decDlc 0x4F) (busyAt .start) (.dlc 8 true) := by decide

/-- R195's third example. -/
theorem test_decDlc_ignored : Returns (.decDlc 0xB3) (busyAt .start) (.dlc 3 false) := by decide

/-- R197's example. -/
theorem test_encFrame :
    Returns (.encFrame ⟨0x123, false, false, [0xDE, 0xAD]⟩) (busyAt .start)
      (.bytes [0x24, 0x60, 0x00, 0x00, 0x02, 0xDE, 0xAD]) := by decide

/-- R197: both checks fail, PayloadTooLong is reported. -/
theorem test_encFrame_order :
    Fails (.encFrame ⟨0x800, false, false, List.replicate 9 0⟩) (busyAt .start) .payloadTooLong 9 := by
  decide

/-- R198's second example. -/
theorem test_decFrame :
    Returns (.decFrame ⟨⟨0xC7, 0xEA, 0xF1, 0x00⟩, 0x48, 1, 2, 3, 4, 5, 6, 7, 8⟩) (busyAt .start)
      (.frame ⟨0x18FEF100, true, true, [1, 2, 3, 4, 5, 6, 7, 8]⟩) := by decide

/-- R198 under SIDL4: the remote flag of a standard frame is SIDL bit 4. -/
theorem test_decFrame_srr :
    Returns (.decFrame ⟨⟨0x24, 0x70, 0, 0⟩, 0x00, 1, 2, 3, 4, 5, 6, 7, 8⟩)
      { busyAt .start with cfg := { idle.cfg with rtrSource := .sidl4 } }
      (.frame ⟨0x123, false, true, []⟩) := by decide

/-- R220's example. -/
theorem test_uartCks : Returns (.uartCks 0xE0 [0x17, 0x01]) (busyAt .start) (.byte 0x05) := by decide

/-- R221's example. -/
theorem test_uartBuild :
    Returns (.uartBuild 0xE0 [0x17, 0x01]) (busyAt .start)
      (.bytes [0x2E, 0xE0, 0x02, 0x17, 0x01, 0x05]) := by decide

/-- R222's example: one unit, the operation still running. -/
theorem test_uartSend :
    (match exec (.uartSend 0x80 [0x80, 0x7F]) (busyAt .start) with
      | .next t => t.uartTx
      | _ => []) = [[0x2E, 0x80, 0x02, 0x80, 0x7F, 0x7E]] := by decide

theorem test_uartSend_returns : Returns (.uartSend 0x80 [0x80, 0x7F]) (busyAt (.sent 0)) .unit := by decide

/-- R223's first example. -/
theorem test_uartParse :
    Returns (.uartParse [0x2E, 0xE0, 0x02, 0x17, 0x01, 0x05]) (busyAt .start)
      (.uart 0xE0 [0x17, 0x01]) := by decide

/-- R223's second example. -/
theorem test_uartParse_checksum :
    Fails (.uartParse [0x2E, 0xE0, 0x02, 0x17, 0x01, 0x06]) (busyAt .start) .frameCorrupt 4 := by decide

/-- V5. -/
theorem test_spiReset : Sends .spiReset (readyAt .start) [0xC0] := by decide

/-- V5. -/
theorem test_regRead : Sends (.regRead 0x0E 1) (busyAt .start) [0x03, 0x0E, 0x00] := by decide

theorem test_regRead_returns :
    Returns (.regRead 0x0E 1) (withRx [0x55, 0xAA, 0x80] (busyAt (.sent 0))) (.bytes [0x80]) := by decide

/-- V5. -/
theorem test_regWrite : Sends (.regWrite 0x2B [0x03]) (busyAt .start) [0x02, 0x2B, 0x03] := by decide

/-- V5: a burst past 0x7F. -/
theorem test_regWrite_past_end :
    Fails (.regWrite 0x7F [1, 2]) (busyAt .start) .illegalOperand 0 := by decide

/-- V5. -/
theorem test_bitModify :
    Sends (.bitModify 0x0F 0xE0 0x80) (busyAt .start) [0x05, 0x0F, 0xE0, 0x80] := by decide

/-- V5. -/
theorem test_readStatus :
    Returns .readStatus (withRx [0x99, 0x54] (busyAt (.sent 0))) (.byte 0x54) := by decide

/-- V5. -/
theorem test_rxStatus : Sends .rxStatus (busyAt .start) [0xB0, 0x00] := by decide

/-- V5. -/
theorem test_rts : Sends (.rts 7) (busyAt .start) [0x87] := by decide

/-- V5. -/
theorem test_rts_zero : Fails (.rts 0) (busyAt .start) .illegalOperand 0 := by decide

/-- R128's example. -/
theorem test_loadTx :
    Sends (.loadTx 2 [0x24, 0x60, 0, 0, 0]) (busyAt .start) [0x42, 0x24, 0x60, 0, 0, 0] := by decide

/-- V5. -/
theorem test_loadTx_long :
    Fails (.loadTx 1 (List.replicate 9 0)) (busyAt .start) .illegalOperand 0 := by decide

/-- V5. -/
theorem test_readRx : Sends (.readRx 2 5) (busyAt .start) [0x94, 0, 0, 0, 0, 0] := by decide

theorem test_readRx_returns :
    Returns (.readRx 3 2) (withRx [0x77, 1, 2] (busyAt (.sent 0))) (.bytes [1, 2]) := by decide

/-- P5: a fatal error. -/
theorem test_init_loopback_loud :
    shows (.init 500000 8000000 .loopback false) (busyAt .start) =
      some (.fault, .err .invalidModeCombination 0, []) := by decide

/-- P1: CNF3 first. -/
theorem test_init_cnf :
    Sends (.init 500000 8000000 .normal false) (withRx [0, 0, 0x80] (busyAt (.modePolled .first)))
      [0x02, 0x28, 0x33, 0x22, 0x11] := by decide

/-- V9: the ICOD bits are ignored. -/
theorem test_setMode :
    Returns (.setMode .listenOnly) (withRx [0, 0, 0x6E] (readyAt (.modePolled .first))) .unit := by decide

/-- V9: the fifth attempt expires. -/
theorem test_setMode_exhausted :
    shows (.setMode .loopback)
      { withRx [0, 0, 0x80] (readyAt (.modePolled .first)) with
        attempt := 5
        env := { Env.empty with expiry := [true] } } =
      some (.fault, .err .modeChangeTimeout 0x02, []) := by decide

/-- V6: status 0x04 selects TXB1. -/
theorem test_send_second :
    Sends (.send ⟨0x123, false, false, [0xDE, 0xAD]⟩) (withRx [0, 0x04] (readyAt (.sent 0)))
      [0x02, 0x41, 0x24, 0x60, 0x00, 0x00, 0x02, 0xDE, 0xAD] := by decide

/-- V6: no buffer. -/
theorem test_send_none :
    Fails (.send ⟨0x123, false, false, [0xDE, 0xAD]⟩) (withRx [0, 0x54] (readyAt (.sent 0)))
      .noBufferAvailable 0x54 := by decide

/-- V7: status 0x02 reads RXB1 alone. -/
theorem test_pollReceive_second :
    Sends .pollReceive (withRx [0, 0x02] (readyAt (.sent 0))) (0x94 :: List.replicate 13 0x00) := by decide

/-- R166's example. -/
theorem test_pollReceive :
    Returns .pollReceive
      { withRx [0, 0x24, 0x60, 0, 0, 0x02, 0xDE, 0xAD, 0, 0, 0, 0, 0, 0] (readyAt (.sent 1)) with
        scratch :=
          { (withRx [0, 0x24, 0x60, 0, 0, 0x02, 0xDE, 0xAD, 0, 0, 0, 0, 0, 0] (readyAt (.sent 1))).scratch with
            st := some 0x01 } }
      (.frames [⟨0x123, false, false, [0xDE, 0xAD]⟩]) := by decide

/-- V8. -/
theorem test_busState :
    Returns .busState (withRx [0, 0, 0x15] (readyAt (.sent 0))) (.bus .errorPassive) := by decide

/-- V8. -/
theorem test_busState_overflow :
    Returns .busState (withRx [0, 0, 0xC0] (readyAt (.sent 0))) (.bus .errorActive) := by decide

/-- V10. -/
theorem test_listen_locked :
    Fails (.listen .empty) { readyAt .start with filtersLocked := true } .filterLocked 0 := by decide

/-- R171: the empty set's masks. -/
theorem test_listen_masks :
    Sends (.listen .empty) (withRx [0, 0, 0x80] (readyAt (.modePolled .first)))
      [0x02, 0x20, 0, 0, 0, 0, 0, 0, 0, 0] := by decide

/-- V10: in FAULT. -/
theorem test_faulted :
    shows .getStatus faulted = some (.fault, .err .faulted 0, []) := by decide

/-- The reference device at its reset, on its own port. -/
def port : State := { State.reset with dev := ⟨.reference, [], 0, []⟩ }

/-- What an SPI instruction leaves at a register of the reference device. -/
def leaves (i : Instr) (a : Nat) (s : State) : Option Byte :=
  match exec i s with
  | .next t => some (t.dev.read a)
  | _ => none

/-- R70. -/
theorem test_spiInstrReset :
    leaves .spiInstrReset 0x0F { port with dev := port.dev.store 0x0F 0x00 } = some 0x87 := by decide

/-- R71, R59: no side effect. -/
theorem test_spiRead : leaves (.spiRead 0x2C 1) 0x2C { port with dev := port.dev.store 0x2C 3 } = some 3 := by
  decide

/-- R96, R56, R67: a READ of 20 bytes brings in the register behind each address; 0x1F mirrors CANCTRL. -/
theorem test_spiRead_long :
    (match exec (.spiRead 0x0C 20) port with
      | .next t => t.history.getLast?.map fun
        | .spi _ rx => [rx.getD 4 0, rx.getD 5 0, rx.getD 20 0, rx.getD 21 0]
        | _ => []
      | _ => none) = some [0x80, 0x87, 0x80, 0x87] := by decide

/-- R94: the flag of RXB1 is cleared. -/
theorem test_spiReadRxBuffer :
    leaves (.spiReadRxBuffer true false 13) 0x2C { port with dev := port.dev.store 0x2C 3 } = some 1 := by
  decide

/-- R66: the unimplemented bits of CNF3 read as 0. -/
theorem test_spiWrite : leaves (.spiWrite 0x28 [0xFF]) 0x28 port = some 0xC7 := by decide

/-- R93: 011 starts at TXB1D0. -/
theorem test_spiLoadTxBuffer :
    leaves (.spiLoadTxBuffer 0b011#3 [0xAB, 0xCD]) 0x47
      { port with dev := port.dev.storeBurst 0x46 [1, 2] } = some 0xCD := by decide

/-- R95: bit 2 requests TXB2. -/
theorem test_spiRts : leaves (.spiRts 0b100#3) 0x50 port = some 0x08 := by decide

/-- R72: TXB0CTRL.TXREQ is bit 2. -/
theorem test_spiReadStatus :
    (match exec .spiReadStatus { port with dev := port.dev.store 0x30 0x08 } with
      | .next t => t.history.getLast?.map fun
        | .spi _ rx => rx.drop 1
        | _ => []
      | _ => none) = some [0x04] := by decide

/-- R126's example: a standard data frame in RXB0 that matched RXF0. -/
theorem test_spiRxStatus :
    ((port.dev.store 0x2C 1).storeBurst 0x62 [0, 0, 0, 0]).rxStatusByte 0x00 = 0x40 := by decide

/-- R126: an extended remote frame that RXF1 took to RXB1 by rollover; bit 5 is the drawn one. -/
theorem test_spiRxStatus_rollover :
    ((((port.dev.store 0x2C 2).store 0x70 0x01).store 0x72 0x08).store 0x75 0x40).rxStatusByte 0x3F = 0xBF ∧
      ((((port.dev.store 0x2C 2).store 0x70 0x05).store 0x72 0x08).store 0x75 0x00).rxStatusByte 0x00 = 0x95 :=
  by decide

/-- R63: the masked bits alone. -/
theorem test_spiBitModify : leaves (.spiBitModify 0x0F 0xE0 0x40) 0x0F port = some 0x47 := by decide

/-- R124: mask 0x00 changes nothing at CANCTRL and requests no mode, nor does a mask without REQOP. -/
theorem test_spiBitModify_mask :
    (match exec (.spiBitModify 0x0F 0x00 0xFF) port with
      | .next t => decide (t.dev = port.dev)
      | _ => false) = true ∧
      (port.dev.bitModify 0x0F 0x10 0xFF).modeReqs = [] ∧
      (port.dev.bitModify 0x0F 0xE0 0x60).modeReqs = [0b011#3] := by decide

/-- R65, R67, R68, R74: registers from the grid of R65, and the end of the space. -/
theorem test_regKind :
    regKind 0x0B = some .filtByte ∧ regKind 0x15 = some .filtSidl ∧ regKind 0x21 = some .maskSidl ∧
      regKind 0x3E = some .canstat ∧ regKind 0x45 = some .txbDlc ∧ regKind 0x7D = some .rxbByte ∧
      regKind 0x2D = some .eflg ∧ regKind 0x80 = none := by decide

/-! ### The device and its bus -/

/-- A frame to send to the reference device or to have it receive. -/
def someFrame : BufferImage := ⟨⟨0x24, 0x60, 0, 0⟩, 2, 0xDE, 0xAD, 0, 0, 0, 0, 0, 0⟩

/-- Requested transmission of TXB1 in a mode. -/
def sending (mode : BitVec 3) : Device := ((port.dev.store 0x40 0x08).store 0x70 0x60).setOpmod mode

/-- R164, R289: in listen-only mode the buffer stays pending. -/
theorem test_txDone_listenOnly :
    ((sending 0b011#3).txDone 1 2 someFrame false) = sending 0b011#3 := by decide

/-- R73: in normal mode the transmission completes, and TX1IF is set. -/
theorem test_txDone_normal :
    let d := (sending 0b000#3).txDone 1 2 someFrame false
    d.read 0x40 = 0x00 ∧ d.read 0x2C = 0x08 := by decide

/-- R289: in loopback mode the device receives its own frame too; here RXB1 takes every frame. -/
theorem test_txDone_loopback :
    let d := ((sending 0b010#3).storeBurst 0x41 (imageBytes someFrame)).store 0x60 0x60
    let t := d.txDone 1 2 someFrame false
    t.read 0x40 = 0x00 ∧ t.read 0x2C = 0x0A ∧ t.readBurst 0x71 7 = [0x24, 0x60, 0, 0, 2, 0xDE, 0xAD] := by
  decide

/-- A device whose masks and filters are zeros, with these flags, RXB0CTRL and RXB1CTRL. -/
def receiving (flags rxb0ctrl rxb1ctrl : Byte) : Device :=
  ((((port.dev.storeBurst 0x00 (List.replicate 12 0)).storeBurst 0x10 (List.replicate 12 0)).storeBurst 0x20
    (List.replicate 8 0)).storeBurst 0x60 [rxb0ctrl]).storeBurst 0x70 [rxb1ctrl] |>.store 0x2C flags

/-- R287: with rollover on, a frame that every filter matches goes to RXB0 while RXB0 is empty, though the
input names a filter of RXB1. -/
theorem test_receive_rxb0_first :
    ((receiving 0 0x04 0).receive 2 someFrame false).read 0x2C = 0x01 := by decide

/-- R73: the same frame rolls over to RXB1 while RXB0 is full. -/
theorem test_receive_rollover :
    ((receiving 1 0x04 0).receive 2 someFrame false).read 0x2C = 0x03 := by decide

/-! ### The receiver and the environment -/

/-- R236: a corrupt frame is acknowledged under the default policy, and dropped. -/
theorem test_urx_corrupt :
    (urxFeed [0x2E, 0xE0, 0x02, 0x17, 0x01, 0x06] idle).history.drop 7 =
      [.uartCorrupt 0xE0 2 0x06 0x05, .uartTx [0xFF]] := by decide

/-- R280, R33: STATUS after a block reset in FAULT. -/
theorem test_blockReset : statusWord (blockReset faulted) = 0x0070 := by decide

/-- P5: STATUS in FAULT. -/
theorem test_fault_status : statusWord faulted = 0x1172 := by decide

/-! ### Witnesses: states and operands that meet the hypotheses of each statement -/

/-- BUSY at the start of the operation a command stands for, with SEQ to move next. -/
def onOp (c : Command) : State :=
  { busyAt .start with op := some c, env := { Env.empty with turns := [.seq] } }

/-- A state in which the environment has chosen these turns, and holds this operation on the command port. -/
def offering (turns : List Turn) (port : Option Command) (s : State) : State :=
  { s with env := { Env.empty with turns := turns, hostPort := port } }

/-- `onOp` meets the invariant at the start of any operation. -/
theorem inv_onOp {c : Command} {i : Instr} (h : decodeHost c = .ok i) : Inv (onOp c) where
  faultCode := ⟨fun _ => rfl, nofun⟩
  modeKnown := nofun
  attempt := ⟨(fun h => nomatch h.2), fun _ => rfl⟩
  step := ⟨fun _ => rfl, fun _ => ⟨fun _ => rfl, fun _ => rfl⟩⟩
  fifo := ⟨Nat.zero_le 1, fun h => absurd rfl h⟩
  urx := ⟨Nat.zero_le 255, trivial⟩
  position := fun _ => by
    show match decodeHost c with | .ok _ => _ | .error _ => _
    rw [h]
    exact .inl rfl
  offers := ⟨nofun, fun d hd => by
    cases hd
    show (match decodeHost c with | .ok _ => _ | .error (.illegalOpcode _) => _ | .error _ => _) = true
    rw [h]⟩
  memory := rfl

/-- EveryStepKeepsTheInvariant, NoStepReadsAnUnwrittenLocal. -/
theorem test_witness_inv : Inv (onOp ⟨0x01, []⟩) := inv_onOp (i := .getStatus) rfl

theorem test_witness_inv_steps : ∃ t, step (onOp ⟨0x01, []⟩) = .next t := ⟨_, rfl⟩

/-- SeqSendsOnlyTableInstructions, EachStepIsOneAction: a step with a transaction. -/
theorem test_witness_transaction :
    Inv (onOp ⟨0x30, []⟩) ∧ (onOp ⟨0x30, []⟩).link = none ∧ ∃ t, step (onOp ⟨0x30, []⟩) = .next t :=
  ⟨inv_onOp (i := .spiReset) rfl, rfl, ⟨_, rfl⟩⟩

/-- StepRunsTheDecodedInstruction: its three clauses. -/
theorem test_witness_step :
    ((onOp ⟨0x01, []⟩).seqState = .busy ∧ SeqNext [] (onOp ⟨0x01, []⟩) ∧
        (onOp ⟨0x01, []⟩).op = some ⟨0x01, []⟩ ∧ decode (.host ⟨0x01, []⟩) = .ok .getStatus) ∧
      (({ idle with link := some [0xC0] } : State).link = some [0xC0] ∧
        decode (.spi [0xC0]) = .ok .spiInstrReset) ∧
      (let s := offering [.seq, .urx] (some ⟨0x01, []⟩) faulted;
        s.seqState = .fault ∧ SeqNext [.urx] s ∧ s.env.hostPort = some ⟨0x01, []⟩) :=
  ⟨⟨rfl, ⟨rfl, rfl⟩, rfl, rfl⟩, ⟨rfl, rfl⟩, rfl, ⟨rfl, rfl⟩, rfl⟩

/-- AcceptingAnOperation. -/
theorem test_witness_accept :
    let s := offering [.seq] (some ⟨0x01, []⟩) idle
    s.seqState = .idle ∧ SeqNext [] s ∧ s.env.hostPort = some ⟨0x01, []⟩ := ⟨rfl, ⟨rfl, rfl⟩, rfl⟩

/-- HostAndPeerSteps: an offer on a free port and on a held one, an illegal opcode and a record of no operation,
a byte of the peer, an offer that waits while SEQ is BUSY, and the choices used up. -/
theorem test_witness_host_peer :
    (let s := offering [.host ⟨0x01, []⟩] none idle;
      s.link = none ∧ s.env.turns = [.host ⟨0x01, []⟩] ∧ s.env.hostPort = none ∧
        isOperation ⟨0x01, []⟩ = true) ∧
      (let s := offering [.host ⟨0x01, []⟩] (some ⟨0x30, []⟩) idle;
        s.link = none ∧ s.env.turns = [.host ⟨0x01, []⟩] ∧ s.env.hostPort = some ⟨0x30, []⟩) ∧
      isOperation ⟨0x46, [.nat 1]⟩ = true ∧ isOperation ⟨0x10, []⟩ = false ∧
      isHostOp .getStatus = true ∧ commandOf .getStatus = some ⟨0x01, []⟩ ∧
      (let s := offering [.peer 0x2E] none idle; s.link = none ∧ s.env.turns = [.peer 0x2E]) ∧
      (let s := offering [.seq] (some ⟨0x30, []⟩) (onOp ⟨0x01, []⟩);
        s.seqState = .busy ∧ s.env.hostPort = some ⟨0x30, []⟩ ∧ ∃ t, step s = .next t) ∧
      State.reset.link = none ∧ State.reset.env.turns = [] :=
  ⟨⟨rfl, rfl, rfl, rfl⟩, ⟨rfl, rfl, rfl⟩, rfl, rfl, rfl, rfl, ⟨rfl, rfl⟩, ⟨rfl, rfl, ⟨_, rfl⟩⟩, rfl, rfl⟩

/-- EachStepIsOneAction: a step that ends its operation. -/
theorem test_witness_busy :
    (onOp ⟨0x01, []⟩).seqState = .busy ∧ SeqNext [] (onOp ⟨0x01, []⟩) ∧
      ∃ t, step (onOp ⟨0x01, []⟩) = .next t := ⟨rfl, ⟨rfl, rfl⟩, ⟨_, rfl⟩⟩

/-- HistoryAndStreamOnlyGrow, OperationsLeaveOtherAgentsAlone, ReceiverRunsBesideSeq: a step that sends a
unit. -/
theorem test_witness_unit :
    (∃ t, exec (.uartSend 0 []) (busyAt .start) = .next t) ∧
      ∃ t, step (onOp ⟨0x22, [.byte 0, .bytes []]⟩) = .next t := ⟨⟨_, rfl⟩, ⟨_, rfl⟩⟩

/-- ReceiverRunsBesideSeq: URX's turn in each state of SEQ. -/
theorem test_witness_urx_turn :
    ∀ q ∈ [SeqState.idle, .busy, .fault],
      let s := { idle with seqState := q, env := { Env.empty with turns := [.urx], uartRx := [0x2E] } }
      s.link = none ∧ s.env.turns = [.urx] ∧ s.env.uartRx = [0x2E] :=
  fun _ _ => ⟨rfl, rfl, rfl⟩

/-- IllegalOpcodes: the ends of the last range. -/
theorem test_witness_illegal :
    ∀ b ∈ [(0x00 : Byte), 0x46, 0xFF],
      (onOp ⟨b, []⟩).seqState = .busy ∧ SeqNext [] (onOp ⟨b, []⟩) ∧ (onOp ⟨b, []⟩).op = some ⟨b, []⟩ ∧
        Opcode.ofByte b = none := by decide

/-- FaultRefusesEveryOperation, RaisingAnError: both clauses, a legal operation and an illegal opcode. -/
theorem test_witness_fault :
    (isHostOp .getStatus = true ∧ isHostOp .spiReset = true ∧ faulted.seqState = .fault) ∧
      (let s := offering [.seq] (some ⟨0x30, []⟩) faulted;
        s.seqState = .fault ∧ SeqNext [] s ∧ s.env.hostPort = some ⟨0x30, []⟩ ∧
          decode (.host ⟨0x30, []⟩) = .ok .spiReset) ∧
      let s := offering [.seq] (some ⟨0x02, []⟩) faulted
      s.seqState = .fault ∧ SeqNext [] s ∧ s.env.hostPort = some ⟨0x02, []⟩ ∧ Opcode.ofByte 0x02 = none :=
  ⟨⟨rfl, rfl, rfl⟩, ⟨rfl, ⟨rfl, rfl⟩, rfl, rfl⟩, rfl, ⟨rfl, rfl⟩, rfl, rfl⟩

/-- OnlyBlockResetLeavesFault: an operation in FAULT, and a frame on the port with a block reset waiting. -/
theorem test_witness_fault_sticks :
    (let s := offering [.seq] (some ⟨0x40, [.nat 0, .nat 0, .mode .normal, .bool false]⟩) faulted;
      s.seqState = .fault ∧ ¬ (s.link = none ∧ (drawTurn s.env).1 = .blockReset) ∧ ∃ t, step s = .next t) ∧
      let s := { offering [.blockReset] none faulted with link := some [0xC0] }
      s.seqState = .fault ∧ ¬ (s.link = none ∧ (drawTurn s.env).1 = .blockReset) ∧ ∃ t, step s = .next t :=
  ⟨⟨rfl, nofun, ⟨_, rfl⟩⟩, rfl, nofun, ⟨_, rfl⟩⟩

/-- BlockReset. -/
theorem test_witness_blockReset :
    let s := { faulted with env := { Env.empty with turns := [.blockReset] } }
    s.link = none ∧ s.env.turns = [.blockReset] := ⟨rfl, rfl⟩

/-- StatusWordFields, CodecOperations, ImageBits, IdentifierRoundTrips: bounds of every operand. -/
theorem test_witness_codec :
    BusyAt .start (busyAt .start) ∧ fitsWidth 0x7FF false = true ∧ fitsWidth 0x1FFFFFFF true = true ∧
      (8 : Byte).toNat ≤ 8 ∧ CanFrame.wf ⟨0x7FF, false, true, List.replicate 8 0⟩ = true ∧
      2 ^ 11 ≤ (0x800 : Id).toNat ∧ 8 < (9 : Byte).toNat ∧ 8 < (List.replicate 9 (0 : Byte)).length := by
  decide

/-- FrameRoundTrips: a frame with its padding, and canonical images under both sources. -/
theorem test_witness_frames :
    (CanFrame.wf ⟨0x7FF, false, false, [1]⟩ = true ∧ (List.replicate 7 (0 : Byte)).length = 8 - 1) ∧
      (let img : BufferImage := ⟨⟨0xFF, 0xE0, 0, 0⟩, 0x48, 1, 2, 3, 4, 5, 6, 7, 8⟩;
        idCanonical img.ident = true ∧ img.dlc.getLsbD 7 = false ∧ img.dlc.getLsbD 5 = false ∧
          img.dlc.getLsbD 4 = false ∧ (img.dlc &&& 0x0F).toNat ≤ 8 ∧ img.ident.sidl.getLsbD 3 = false) ∧
      idCanonical ⟨0xFF, 0xEB, 0xFF, 0xFF⟩ = true ∧ (0xEB : Byte).getLsbD 3 = true := by decide

/-- UartOperations, SingleByteCorruptionIsDetected, ReceiverTakesAFrame: the longest payload, and one byte
more. -/
theorem test_witness_uart :
    BusyAt .start (busyAt .start) ∧ BusyAt (.sent 0) (busyAt (.sent 0)) ∧ idle.urx.state = .hunt ∧
      (List.replicate 255 (0 : Byte)).length ≤ 255 ∧ 255 < (List.replicate 256 (0 : Byte)).length := by
  refine ⟨by decide, by decide, by decide, List.length_replicate.le, ?_⟩
  rw [List.length_replicate]
  decide

/-- UartParseReasons: a list for each reason and one for none. -/
theorem test_witness_parse :
    ([0x2E, 0x00, 0x00] : List Byte).length < 4 ∧
      (4 ≤ ([0x2F, 0, 0, 0xFF] : List Byte).length ∧ ([0x2F, 0, 0, 0xFF] : List Byte).getD 0 0 ≠ 0x2E) ∧
      ([0x2E, 0, 1, 0xFF] : List Byte).length ≠ 4 + (([0x2E, 0, 1, 0xFF] : List Byte).getD 2 0).toNat ∧
      ([0x2E, 0, 0, 0xFE] : List Byte).getD 3 0 ≠ uartCksByte 0 [] ∧
      ([0x2E, 0, 0, 0xFF] : List Byte).getD 3 0 = uartCksByte 0 [] := by decide

/-- SingleByteCorruptionIsDetected: the first and the last byte of a frame. -/
theorem test_witness_corruption :
    (0 < 4 + 0 ∧ (0x2F : Byte) ≠ (uartFrameBytes 0 []).getD 0 0) ∧
      3 < 4 + 0 ∧ (0x00 : Byte) ≠ (uartFrameBytes 0 []).getD 3 0 := by decide

/-- ReceiverTransitions: DATA before its last byte and at it, and a byte present. -/
theorem test_witness_receiver :
    ∀ q ∈ [UrxState.hunt, .type, .len, .data, .cks], ∀ n ∈ [(1 : Byte), 2],
      let s := { idle with urx := { idle.urx with state := q, len := n }, env := { Env.empty with uartRx := [0] } }
      s.urx.state = q ∧ s.env.uartRx = [0] ∧ (s.urx.cnt + 1 = s.urx.len.toNat ↔ n = 1) := by decide

/-- WritePrimitivesComplete, ReadPrimitivesComplete: the bounds of every operand. -/
theorem test_witness_primitives :
    BusyAt .start (busyAt .start) ∧
      (∀ p ∈ [((0x7F : Byte), 1), (0x70, 16), (0x00, 16)],
        1 ≤ p.2 ∧ p.2 ≤ 16 ∧ p.1.toNat + p.2 ≤ 0x80) ∧
      (0x7F : Byte).toNat ≤ 0x7F ∧ (∀ t ∈ [(1 : Byte), 7], 1 ≤ t.toNat ∧ t.toNat ≤ 7) ∧
      (∀ p ∈ [((5 : Byte), 8), (4, 13), (0, 1)],
        p.1.toNat ≤ 5 ∧ 1 ≤ p.2 ∧ p.2 ≤ if p.1.getLsbD 0 then 8 else 13) ∧
      ∀ p ∈ [((3 : Byte), 8), (2, 13), (0, 1)],
        p.1.toNat ≤ 3 ∧ 1 ≤ p.2 ∧ p.2 ≤ if p.1.getLsbD 0 then 8 else 13 := by decide

/-- PrimitiveOperandErrors: one past each bound. -/
theorem test_witness_operand_errors :
    0x7F < (0x80 : Byte).toNat ∧ 16 < 17 ∧ 0x80 < (0x71 : Byte).toNat + 16 ∧
      0x80 < (0x7F : Byte).toNat + 2 ∧ (0 : Byte).toNat = 0 ∧ 7 < (8 : Byte).toNat ∧
      5 < (6 : Byte).toNat ∧ 3 < (4 : Byte).toNat ∧ (if (1 : Byte).getLsbD 0 then 8 else 13) < 9 ∧
      (if (0 : Byte).getLsbD 0 then 8 else 13) < 14 := by decide

/-- OtherInstructionsKeepBeliefs. -/
theorem test_witness_beliefs :
    writesBeliefs (.rts 1) = false ∧ (∃ t, exec (.rts 1) (readyAt .start) = .next t) ∧
      writesBeliefs .spiInstrReset = false ∧ ∃ t, exec .spiInstrReset (readyAt .start) = .next t :=
  ⟨rfl, ⟨_, rfl⟩, rfl, ⟨_, rfl⟩⟩

/-- A filter record of zeros but for its last filter. -/
def filtersWith (x : IdSpec) : FilterRecord :=
  ⟨⟨0, false⟩, ⟨0, true⟩, ⟨0, false⟩, ⟨0, false⟩, ⟨0, false⟩, ⟨0, false⟩, ⟨0, false⟩, x⟩

/-- CompositeAdmission: each clause, before and after INIT. -/
theorem test_witness_admission :
    BusyAt .start (busyAt .start) ∧ (busyAt .start).initialized = false ∧
      8 < (List.replicate 9 (0 : Byte)).length ∧ 2 ^ 11 ≤ (0x800 : Id).toNat ∧
      (⟨0x800, false⟩ : IdSpec) ∈ (filtersWith ⟨0x800, false⟩).specs ∧
      CanFrame.wf ⟨0x7FF, false, false, List.replicate 8 0⟩ = true ∧
      FilterSet.wf .empty = true ∧ FilterSet.wf (.full (filtersWith ⟨0x7FF, false⟩)) = true ∧
      let s := { readyAt .start with filtersLocked := true }
      BusyAt .start s ∧ s.initialized = true ∧ s.filtersLocked = true := by decide

/-- InitChecks: a pair with an entry and one without. -/
theorem test_witness_init :
    BusyAt .start (busyAt .start) ∧
      bitrateLookup (busyAt .start).cfg.bitrateTable 500000 8000000 ≠ none ∧
      bitrateLookup (busyAt .start).cfg.bitrateTable 500000 16000000 = none ∧
      ¬ (Mode.loopback = .loopback ∧ true = false) := by decide

/-- ModeSetWritesAndPolls. -/
theorem test_witness_mode_start :
    BusyAt (.modeWritten .first) (busyAt (.modeWritten .first)) ∧
      modeCallOf (.setMode .normal) .first Scratch.unwritten ≠ none ∧
      modeCallOf (.init 0 0 .normal false) .second Scratch.unwritten ≠ none ∧
      modeCallOf (.listen .empty) .second { Scratch.unwritten with prior := some .normal } ≠ none ∧
      BusyAt .start (readyAt .start) ∧ (readyAt .start).initialized = true ∧
      BusyAt (.sent 0) (busyAt (.sent 0)) ∧ BusyAt (.sent 8) (busyAt (.sent 8)) := by decide

/-- A poll that shows configuration mode, in an attempt, with one draw of AttemptExpired fixed. -/
def polled (c : ModeCall) (attempt : Nat) (expired : Bool) : State :=
  { withRx [0, 0, 0x80] (readyAt (.modePolled c)) with
    attempt := attempt, env := { Env.empty with expiry := [expired] } }

/-- ModeSetUnconfirmed: not expired, expired in the fourth attempt, expired in the fifth. -/
theorem test_witness_unconfirmed :
    modeCallOf (.setMode .loopback) .first (polled .first 1 false).scratch =
        some (.loopback, .modeChangeTimeout, 0x12) ∧
      (∀ p ∈ [(1, false), (4, true), (5, true)],
        BusyAt (.modePolled .first) (polled .first p.1 p.2) ∧
          rxByte (polled .first p.1 p.2) 2 = some 0x80 ∧
          (0x80 : Byte).extractLsb' 5 3 ≠ modeCode .loopback ∧
          drawExpiry (polled .first p.1 p.2).env = (p.2, Env.empty)) := by decide

/-- ModeSetConfirmed, InitProgramsTheChip. -/
theorem test_witness_confirmed :
    BusyAt (.modePolled .first) (polled .first 1 true) ∧
      BusyAt (.modePolled .second) (polled .second 1 true) ∧
      rxByte (polled .second 1 true) 2 = some 0x80 ∧
      (0x80 : Byte).extractLsb' 5 3 = modeCode .config ∧
      bitrateLookup (polled .first 1 true).cfg.bitrateTable 500000 8000000 =
        some ⟨500000, 8000000, 0x11, 0x22, 0x33⟩ := by decide

/-- The simulator, before the first operation and after an INIT. -/
def simulated (s : State) : State := { s with dev := ⟨.simulator, [], 0, [0b001#3]⟩ }

/-- InitOnTheSimulator, ListenOnTheSimulator. -/
theorem test_witness_simulator :
    BusyAt .start (simulated (busyAt .start)) ∧ (simulated (busyAt .start)).dev.law = .simulator ∧
      bitrateLookup (simulated (busyAt .start)).cfg.bitrateTable 500000 8000000 =
        some ⟨500000, 8000000, 0x11, 0x22, 0x33⟩ ∧
      BusyAt .start (simulated (readyAt .start)) ∧ (simulated (readyAt .start)).initialized = true ∧
      (simulated (readyAt .start)).filtersLocked = false ∧
      (simulated (readyAt .start)).curMode = .known .normal := by decide

/-- SendSteps: a status byte for each choice, and the later positions. -/
theorem test_witness_send :
    BusyAt .start (readyAt .start) ∧
      (∀ st ∈ [(0x00 : Byte), 0x04, 0x14, 0x54],
        BusyAt (.sent 0) (withRx [0, st] (readyAt (.sent 0))) ∧
          rxByte (withRx [0, st] (readyAt (.sent 0))) 1 = some st) ∧
      ∀ k ∈ [1, 2],
        let s := readyAt (.sent k)
        let s1 := { s with scratch := { s.scratch with sel := some 2 } }
        BusyAt (.sent k) s1 ∧ s1.scratch.sel = some 2 := by decide

/-- A machine with the device's next bytes fixed. -/
def drawing (l : List Byte) : State := { readyAt .start with env := { Env.empty with miso := l } }

/-- SendRuns: the third buffer alone is free, and none is. -/
theorem test_witness_send_runs :
    BusyAt .start (drawing [0, 0x14]) ∧
      (deviceXfer [0xA0, 0x00] (drawing [0, 0x14]).dev (drawing [0, 0x14]).env).rx.getD 1 0 = 0x14 ∧
      (∀ k, k < 2 → (0x14 : Byte).getLsbD (2 + 2 * k) = true) ∧
      (0x14 : Byte).getLsbD (2 + 2 * 2) = false ∧
      (deviceXfer [0xA0, 0x00] (drawing [0, 0x54]).dev (drawing [0, 0x54]).env).rx.getD 1 0 = 0x54 ∧
      ∀ k, k < 3 → (0x54 : Byte).getLsbD (2 + 2 * k) = true := by decide

/-- PollReceiveSteps: the two buffer reads. -/
theorem test_witness_poll_steps :
    let s (k : Nat) := withRx (0 :: List.replicate 13 0) (readyAt (.sent k))
    let img : BufferImage := ⟨⟨0, 0, 0, 0⟩, 0, 0, 0, 0, 0, 0, 0, 0, 0⟩
    let s1 := { s 1 with scratch := { (s 1).scratch with st := some 0x03 } }
    BusyAt (.sent 1) s1 ∧ s1.scratch.rx = some (0 :: imageBytes img) ∧ s1.scratch.st = some 0x03 ∧
      BusyAt (.sent 2) (s 2) ∧ (s 2).scratch.rx = some (0 :: imageBytes img) := by decide

/-- PollReceiveReturnsTheFrames: bytes for each of the four cases. -/
theorem test_witness_poll :
    let img : BufferImage := ⟨⟨0x24, 0x60, 0, 0⟩, 1, 0xAA, 0, 0, 0, 0, 0, 0, 0⟩
    (∀ st ∈ [(0x00 : Byte), 0x01, 0x02, 0x03],
      BusyAt .start (drawing [0, st]) ∧ (drawing [0, st]).initialized = true ∧
        (drawing [0, st]).rxFifo = [] ∧ (drawing [0, st]).dev.law = .any) ∧
      (drawing ([0, 0x03] ++ (0 :: imageBytes img) ++ (0 :: imageBytes img) ++ [7])).env.miso =
        [0, 0x03] ++ (0 :: imageBytes img) ++ (0 :: imageBytes img) ++ [7] := by decide

/-- BusStateCompletes: a byte for each state. -/
theorem test_witness_busState :
    BusyAt .start (readyAt .start) ∧
      ∀ e ∈ [(0x20 : Byte), 0x08, 0x01, 0xC0],
        BusyAt (.sent 0) (withRx [0, 0, e] (readyAt (.sent 0))) ∧
          rxByte (withRx [0, 0, e] (readyAt (.sent 0))) 2 = some e := by decide

/-- ListenSteps: every position, with `prior` saved. -/
theorem test_witness_listen :
    FilterSet.wf (.full (filtersWith ⟨0x7FF, false⟩)) = true ∧ BusyAt .start (readyAt .start) ∧
      (readyAt .start).filtersLocked = false ∧
      ∀ p ∈ [Point.sent 0, .sent 1, .sent 2, .modePolled .first, .modePolled .second],
        let s := withRx [0, 0, 0x80] (readyAt p)
        let s1 := { s with scratch := { s.scratch with prior := some .config } }
        BusyAt p s1 ∧ s1.scratch.prior = some .config ∧ rxByte s1 2 = some 0x80 ∧
          (0x80 : Byte).extractLsb' 5 3 = modeCode .config := by decide

/-- OperationsTerminate: SET_MODE polls in its first attempt, with ten expiries fixed. -/
theorem test_witness_terminates :
    let c : Command := ⟨0x41, [.mode .loopback]⟩
    let s := { polled .first 1 true with
      step := 2, op := some c, env := { Env.empty with expiry := List.replicate 10 true } }
    Inv s ∧ s.seqState = .busy ∧ s.link = none ∧ decodeHost c = .ok (.setMode .loopback) ∧
      10 ≤ s.env.expiry.count true :=
  ⟨{ faultCode := ⟨fun _ => rfl, nofun⟩
     modeKnown := fun _ => by decide
     attempt := ⟨fun _ => by decide, fun h => absurd ⟨rfl, rfl⟩ h⟩
     step := ⟨fun h => absurd rfl h, fun _ => by decide⟩
     fifo := ⟨by decide, fun h => absurd rfl h⟩
     urx := ⟨by decide, trivial⟩
     position := fun _ => .inr (.inr ⟨rfl, _, rfl, rfl⟩)
     offers := ⟨nofun, fun d hd => by cases hd; rfl⟩
     memory := rfl }, rfl, rfl, rfl, by decide⟩

/-- SpiInstructionsComplete: bytes fixed for one transaction. -/
theorem test_witness_draws :
    (drawing [1, 2, 3]).dev.law = .any ∧ ([1, 2] : List Byte).length = ([0xA0, 0] : List Byte).length ∧
      (drawing [1, 2, 3]).env.miso = [1, 2] ++ [3] := by decide

/-- The statements about the reference device: the law, and a next state for each instruction, in bursts longer
than the block's. -/
theorem test_witness_reference :
    port.dev.law = .reference ∧ (0x60 : Byte).toNat + 32 ≤ 0x80 ∧ 0x61 + 31 ≤ 0x80 ∧
      (∃ t, exec (.spiRead 0x60 32) port = .next t) ∧ (∃ t, exec .spiReadStatus port = .next t) ∧
      (∃ t, exec .spiRxStatus port = .next t) ∧
      (∃ t, exec (.spiReadRxBuffer false false 31) port = .next t) ∧
      (∃ t, exec (.spiWrite 0x60 (List.replicate 32 0)) port = .next t) ∧
      (∃ t, exec (.spiLoadTxBuffer 0b101#3 (List.replicate 8 0)) port = .next t) ∧
      (∃ t, exec (.spiBitModify 0x7F 1 1) port = .next t) ∧ (∃ t, exec (.spiRts 0) port = .next t) ∧
      ∃ t, exec .spiInstrReset port = .next t :=
  ⟨rfl, by decide, by decide, ⟨_, rfl⟩, ⟨_, rfl⟩, ⟨_, rfl⟩, ⟨_, rfl⟩, ⟨_, rfl⟩, ⟨_, rfl⟩, ⟨_, rfl⟩,
    ⟨_, rfl⟩, ⟨_, rfl⟩⟩

/-- ReferenceReads: one message waiting, in RXB0 and in RXB1. -/
theorem test_witness_rxStatus :
    (let d := port.dev.store 0x2C 1; d.bit 0x2C 0 = true ∧ d.bit 0x2C 1 = false) ∧
      (let d := port.dev.store 0x2C 2; d.bit 0x2C 0 = false ∧ d.bit 0x2C 1 = true) := by decide

/-- ReferenceWrite, ReferenceBitModify: an address of each kind of register, mirrors among them. -/
theorem test_witness_kinds :
    ∀ p ∈ [((0x7F : Byte), RegKind.canctrl), (0x0C, .bfpctrl), (0x2A, .cnf1), (0x29, .cnf2),
        (0x28, .cnf3), (0x2B, .caninte), (0x2C, .canintf), (0x52, .txbSidl), (0x55, .txbDlc),
        (0x5D, .txbByte), (0x7E, .canstat), (0x1C, .tecCtr), (0x1D, .recCtr), (0x72, .rxbSidl),
        (0x75, .rxbDlc), (0x7D, .rxbByte), (0x2D, .eflg), (0x50, .txbCtrl), (0x60, .rxb0Ctrl),
        (0x70, .rxb1Ctrl), (0x0D, .txrtsctrl), (0x19, .filtSidl), (0x1B, .filtByte),
        (0x25, .maskSidl), (0x27, .maskByte)],
      regKind p.1.toNat = some p.2 := by decide

/-- ReferenceWrite: a burst over the end of the space but one, whose last byte alone reaches CANCTRL. -/
theorem test_witness_burst :
    (0x6F : Byte).toNat + 17 ≤ 0x80 ∧ (List.replicate 17 (0xE5 : Byte))[16]? = some 0xE5 ∧
      regKind ((0x6F : Byte).toNat + 16) = some .canctrl ∧
      (∀ j', 16 < j' → j' < (List.replicate 17 (0xE5 : Byte)).length → False) ∧
      canonAddr ((0x6F : Byte).toNat + 0) = canonAddr ((0x6F : Byte).toNat + 16) := by
  refine ⟨by decide, by decide, by decide, fun j h h' => ?_, by decide⟩
  rw [List.length_replicate] at h'
  omega

/-- ReferenceWrite, ReferenceBitModify: in configuration mode and out of it. -/
theorem test_witness_config_mode :
    port.dev.opmod = 0b100#3 ∧ (port.dev.store 0x0E 0x00).opmod ≠ 0b100#3 := by decide

/-- ReferenceLoadTx: both bounds of a burst within its buffer, and one that goes on past it. -/
theorem test_witness_loadTx :
    (0b101#3).toNat ≤ 5 ∧ (List.replicate 8 (0 : Byte)).length ≤ (if (0b101#3).getLsbD 0 then 8 else 13) ∧
      (List.replicate 13 (0 : Byte)).length ≤ (if (0b100#3).getLsbD 0 then 8 else 13) ∧
      0x51 + (List.replicate 47 (0 : Byte)).length ≤ 0x80 ∧
      ∃ t, exec (.spiLoadTxBuffer 0b100#3 (List.replicate 47 0)) port = .next t :=
  ⟨by decide, by decide, by decide, by rw [List.length_replicate], ⟨_, rfl⟩⟩

/-- ModeChangeIsDelayed: the device's turn takes the second of two requests, and the simulator the last. -/
theorem test_witness_mode_turn :
    let d : Device := ⟨.simulator, [], 0, [modeCode .normal, modeCode .listenOnly]⟩
    let s := { offering [.deviceMode 1] none idle with dev := d }
    s.dev.law ≠ .any ∧ s.link = none ∧ s.env.turns = [.deviceMode 1] ∧
      s.dev.modeReqs[1]? = some (modeCode .listenOnly) ∧ (∃ t, step s = .next t) ∧
      s.dev.modeReqs.getLast? = some (modeCode .listenOnly) ∧ ∃ t, exec .spiReadStatus s = .next t :=
  ⟨by decide, rfl, rfl, rfl, ⟨_, rfl⟩, rfl, ⟨_, rfl⟩⟩

/-- ReferenceBusSide: a filter of either buffer accepts a frame by matching it, and by the input where RXM is not
00; RXB0's filters accept it alone, RXB1's alone, and none does. -/
theorem test_witness_accepts :
    (receiving 0 0x00 0x00).accepts 5 0 someFrame.ident = true ∧
      (receiving 0 0x00 0x00).accepts 5 2 someFrame.ident = true ∧
      (receiving 0 0x60 0x60).accepts 5 0 someFrame.ident = false ∧
      (receiving 0 0x60 0x60).accepts 5 1 someFrame.ident = false ∧
      (receiving 0 0x60 0x60).accepts 5 2 someFrame.ident = false ∧
      (receiving 0 0x60 0x60).accepts 5 5 someFrame.ident = true ∧
      (let d := (receiving 0 0x00 0x00).storeBurst 0x20 (List.replicate 8 0xFF);
        d.accepts 5 0 someFrame.ident = false ∧ d.accepts 5 2 someFrame.ident = false) ∧
      (let d := (receiving 0 0x00 0x00).storeBurst 0x24 (List.replicate 4 0xFF);
        d.accepts 5 0 someFrame.ident = true ∧
          ∀ f : Fin Config.nFilt, 2 ≤ f.val → d.accepts 5 f someFrame.ident = false) ∧
      (let d := (receiving 0 0x00 0x00).storeBurst 0x20 (List.replicate 4 0xFF);
        d.accepts 5 2 someFrame.ident = true ∧
          ∀ f : Fin Config.nFilt, f.val < 2 → d.accepts 5 f someFrame.ident = false) := by decide

/-- ReferenceBusSide: the flags and the rollover bit of each clause, with RXB0 and RXB1 or RXB1 alone
accepting. -/
theorem test_witness_bus :
    (∀ ctrl ∈ [(0x00 : Byte), 0x04],
      (let d := receiving 0 ctrl 0; d.bit 0x2C 0 = false ∧ d.bit 0x2C 1 = false) ∧
        (let d := receiving 1 ctrl 0; d.bit 0x2C 0 = true ∧ d.bit 0x2C 1 = false) ∧
        (let d := receiving 2 ctrl 0; d.bit 0x2C 0 = false ∧ d.bit 0x2C 1 = true) ∧
        let d := receiving 3 ctrl 0; d.bit 0x2C 0 = true ∧ d.bit 0x2C 1 = true) ∧
      (receiving 1 0x04 0).bit 0x60 2 = true ∧ (receiving 1 0x00 0).bit 0x60 2 = false := by decide

/-- TransmissionsAndBusTurns: turns on both sides of the law; a transmission pending for each reason, one that
completes, and one in loopback mode. -/
theorem test_witness_turns :
    (let s := offering [.busFrame 5 someFrame true] none port;
      s.link = none ∧ s.env.turns = [.busFrame 5 someFrame true] ∧ s.dev.law ≠ .any) ∧
      (let s := offering [.txDone 2 5 someFrame true] none idle;
        s.link = none ∧ s.env.turns = [.txDone 2 5 someFrame true] ∧ s.dev.law = .any) ∧
      (sending 0b000#3).bit (0x30 + 0x10 * 1) 3 = true ∧ (sending 0b000#3).opmod = 0b000#3 ∧
      (sending 0b000#3).bit 0x2D 5 = false ∧ (sending 0b000#3).bit (0x30 + 0x10 * 2) 3 = false ∧
      (sending 0b011#3).opmod = 0b011#3 ∧ (sending 0b100#3).opmod = 0b100#3 ∧
      ((sending 0b000#3).store 0x2D 0x20).bit 0x2D 5 = true ∧ (sending 0b010#3).opmod = 0b010#3 := by decide

/-- CanonicalMemoriesAreEqual. -/
theorem test_witness_memory :
    Memory.wf [(0x0F, 0x07), (0x2B, 0x03)] = true ∧ Memory.wf [(0x2B, 0x00)] = false := by decide

/-- DecodeInvertsEncode, EncodeInvertsDecode, WordsDecode. -/
theorem test_witness_encoding :
    isHostOp (.send ⟨0, false, false, []⟩) = true ∧ Instr.wf (.spiRead 0xFF 200) = true ∧
      decode (.spi [0x87]) = .ok (.spiRts 7) ∧ (0x97 : Byte) &&& SpiOp.mask .readRx ≠ SpiOp.byte .readRx ∧
      (0x96 : Byte) &&& SpiOp.mask .readRx = SpiOp.byte .readRx :=
  ⟨rfl, by decide, rfl, by decide, by decide⟩

end Sys2Proof.Tests
end

section
/-! What one step of an instruction can do, said once (R23, R254); that a step keeps the operation on the
command port; which commands are operations (R90, R91); and with these the host's and the peer's steps (O7). -/

namespace Sys2Proof.Machine

/-! ### What one step of an instruction can do -/

/-- `s'` is `s` but for what a rule writes of its own before its step ends: `attempt`, the beliefs about the
device, the FIFO, `scratch`, and the expiry draws it takes (R24, R30, R31, R151). -/
def Prepared (s s' : State) : Prop :=
  s' =
    { s with
      attempt := s'.attempt
      initialized := s'.initialized
      curMode := s'.curMode
      filtersLocked := s'.filtersLocked
      rxFifo := s'.rxFifo
      scratch := s'.scratch
      env := { s.env with expiry := s'.env.expiry, expiryDraws := s'.env.expiryDraws } }

theorem Prepared.trans {s s' s'' : State} (h : Prepared s s') (h' : Prepared s' s'') : Prepared s s'' := by
  unfold Prepared at h'
  rw [h] at h'
  exact h'

theorem Prepared.hostPort {s s' : State} (h : Prepared s s') : s'.env.hostPort = s.env.hostPort := by rw [h]

/-- How a rule's step ends (R23): with one transaction, with one UART unit, with a result, or with an error. -/
inductive RuleStep (i : Instr) (s : State) : State → Prop
  | xfer {s' : State} (tx : List Byte) (p : Point) (h : Prepared s s') : RuleStep i s (seqXfer tx p s')
  | emit (l : List Byte) (p : Point) : RuleStep i s (seqEmit l p s)
  | value {s' : State} (v : Value) (h : Prepared s s') : RuleStep i s (finishOk i v s')
  | error {s' : State} (e : ErrorCode) (info : Byte) (h : Prepared s s') : RuleStep i s (raiseOp i e info s')

/-- What one step of an instruction does: in FAULT a host operation is refused (R254), else its rule runs; an
SPI instruction is one transaction on the device's port (log 9). -/
inductive ExecStep (i : Instr) (s : State) : State → Prop
  | faulted (h : s.seqState = .fault) : ExecStep i s (completeFaulted (.legal i) s)
  | running {t : State} (h : s.seqState ≠ .fault) (ht : RuleStep i s t) : ExecStep i s t
  | port (h : isHostOp i = false) : ExecStep i s (transact (frameOf i) { s with link := none })

/-- An outcome is no next state (R31's fault), or one that a rule's step can end in. -/
def Ends (i : Instr) (s : State) (o : Host.Outcome State Fault Refusal) : Prop :=
  ∀ t, o = .next t → RuleStep i s t

section
variable {i : Instr} {s t : State}

theorem RuleStep.ite {a b : State} {c : Prop} [Decidable c] (ha : RuleStep i s a) (hb : RuleStep i s b) :
    RuleStep i s (if c then a else b) := by
  split
  · exact ha
  · exact hb

theorem next_ends (h : RuleStep i s t) : Ends i s (.next t) := by
  rintro _ ⟨⟩
  exact h

theorem fault_ends (f : Fault) : Ends i s (.fault f) := by
  rintro _ ⟨⟩

theorem readScratch_ends {α : Type} {x : Option α} {rule : α → Host.Outcome State Fault Refusal}
    (h : ∀ a, Ends i s (rule a)) : Ends i s (readScratch x rule) := by
  intro t ht
  obtain ⟨a, -, ha⟩ := readScratch_next ht
  exact h a t ha

/-! The shapes the rules share. -/

theorem unlessFault_cases {rule : Point → Host.Outcome State Fault Refusal}
    (h : unlessFault i s rule = .next t) (hrule : ∀ p, Ends i s (rule p)) : ExecStep i s t := by
  by_cases hf : s.seqState = .fault
  · rw [unlessFault_fault i rule hf] at h
    cases h
    exact .faulted hf
  · rw [unlessFault_run i rule hf] at h
    exact .running hf (hrule _ t h)

theorem singleStep_cases {r : State} (h : singleStep i s r = .next t) (hr : RuleStep i s r) :
    ExecStep i s t := by
  refine unlessFault_cases h fun p => ?_
  split
  · exact next_ends hr
  · exact fault_ends _

theorem oneXfer_cases {b : State} {ending : Host.Outcome State Fault Refusal}
    (h : oneXfer i s b ending = .next t) (hb : RuleStep i s b) (he : Ends i s ending) : ExecStep i s t := by
  refine unlessFault_cases h fun p => ?_
  split
  · exact next_ends hb
  · exact he
  · exact fault_ends _

/-- An expiry draw and a new count of attempts are a rule's own (R24, R151). -/
theorem prepared_drawExpiry (s : State) (a : Nat) :
    Prepared s { s with env := (drawExpiry s.env).2, attempt := a } := by
  obtain ⟨b, rest, -, h⟩ | ⟨-, h⟩ := drawExpiry_cases s.env
  · rw [h]; rfl
  · rw [h]; rfl

/-- A poll of ModeSet confirms, goes on with a transaction, or raises its caller's error (R150, R151). -/
theorem modePolledStep_ends {m : Mode} {c : ModeCall} {e : ErrorCode}
    {rest : State → Host.Outcome State Fault Refusal} (hrest : ∀ s', Prepared s s' → Ends i s (rest s')) :
    Ends i s (modePolledStep i m c e s rest) := by
  refine readScratch_ends fun canstat => ?_
  obtain ⟨-, h⟩ | ⟨-, ⟨-, h⟩ | ⟨-, -, h⟩ | ⟨-, -, h⟩⟩ := modeCheck_cases m c canstat s
  · rw [h]
    exact hrest _ rfl
  · rw [h, ← seqXfer_eq]
    exact next_ends (.xfer _ _ (prepared_drawExpiry s s.attempt))
  · rw [h, ← seqXfer_eq]
    exact next_ends (.xfer _ _ (prepared_drawExpiry s (s.attempt + 1)))
  · rw [h]
    exact next_ends (.error _ _ (prepared_drawExpiry s 0))

/-! The rules with several transactions. -/

theorem initBegin_ruleStep (bitrate crystal : Nat) (mode : Mode) (silent : Bool) :
    RuleStep i s (initBegin i bitrate crystal mode silent s) := by
  refine .ite (.error _ _ rfl) ?_
  split
  · exact .error _ _ rfl
  · exact .ite (.error _ _ rfl) (.xfer _ _ rfl)

theorem execInit_cases {bitrate crystal : Nat} {mode : Mode} {silent : Bool}
    (h : execInit bitrate crystal mode silent s = .next t) :
    ExecStep (.init bitrate crystal mode silent) s t := by
  unfold execInit at h
  refine unlessFault_cases h fun p => ?_
  split
  · exact next_ends (initBegin_ruleStep ..)
  · exact next_ends (.xfer _ _ rfl)
  · exact next_ends (.xfer _ _ rfl)
  · exact modePolledStep_ends fun s' hs => readScratch_ends fun _ => next_ends (.xfer _ _ hs)
  · exact next_ends (.xfer _ _ rfl)
  · split
    · exact next_ends (.xfer _ _ rfl)
    · exact fault_ends _
  · exact modePolledStep_ends fun s' hs => next_ends (.value _ (hs.trans rfl))

theorem execSetMode_cases {mode : Mode} (h : execSetMode mode s = .next t) :
    ExecStep (.setMode mode) s t := by
  unfold execSetMode at h
  refine unlessFault_cases h fun p => ?_
  split
  · exact next_ends (.ite (.xfer _ _ rfl) (.error _ _ rfl))
  · exact next_ends (.xfer _ _ rfl)
  · exact modePolledStep_ends fun s' hs => next_ends (.value _ hs)
  · exact fault_ends _

theorem sendBegin_ruleStep (f : CanFrame) : RuleStep i s (sendBegin i f s) :=
  .ite (.error _ _ rfl) (.ite (.error _ _ rfl) (.ite (.xfer _ _ rfl) (.error _ _ rfl)))

theorem sendLoad_ruleStep (f : CanFrame) (st : Byte) : RuleStep i s (sendLoad i f st s) := by
  unfold sendLoad
  split
  · exact .error _ _ rfl
  · exact .xfer _ _ rfl

theorem execSend_cases {f : CanFrame} (h : execSend f s = .next t) : ExecStep (.send f) s t := by
  unfold execSend at h
  refine unlessFault_cases h fun p => ?_
  split
  · exact next_ends (sendBegin_ruleStep f)
  · exact readScratch_ends fun st => next_ends (sendLoad_ruleStep f st)
  · exact readScratch_ends fun _ => next_ends (.xfer _ _ rfl)
  · exact readScratch_ends fun _ => next_ends (.value _ rfl)
  · exact fault_ends _

theorem pollDrain_ruleStep {s' : State} (h : Prepared s s') : RuleStep .pollReceive s (pollDrain s') :=
  .value _ (h.trans rfl)

theorem pollSecond_ruleStep {s' : State} (st : Byte) (h : Prepared s s') :
    RuleStep .pollReceive s (pollSecond st s') :=
  .ite (.xfer _ _ h) (pollDrain_ruleStep h)

theorem pollFirst_ruleStep {s' : State} (st : Byte) (h : Prepared s s') :
    RuleStep .pollReceive s (pollFirst st s') :=
  .ite (.xfer _ _ h) (pollSecond_ruleStep st h)

theorem execPollReceive_cases (h : execPollReceive s = .next t) : ExecStep .pollReceive s t := by
  refine unlessFault_cases h fun p => ?_
  split
  · exact next_ends (.ite (.xfer _ _ rfl) (.error _ _ rfl))
  · exact readScratch_ends fun st => next_ends (pollFirst_ruleStep st rfl)
  · exact readScratch_ends fun _ => readScratch_ends fun _ => readScratch_ends fun st =>
      next_ends (pollSecond_ruleStep st rfl)
  · exact readScratch_ends fun _ => readScratch_ends fun _ => next_ends (pollDrain_ruleStep rfl)
  · exact fault_ends _

theorem listenBegin_ruleStep (fs : FilterSet) : RuleStep i s (listenBegin i fs s) :=
  .ite (.error _ _ rfl) (.ite (.error _ _ rfl) (.ite (.error _ _ rfl) (.xfer _ _ rfl)))

theorem execListen_cases {fs : FilterSet} (h : execListen fs s = .next t) : ExecStep (.listen fs) s t := by
  unfold execListen at h
  refine unlessFault_cases h fun p => ?_
  split
  · exact next_ends (listenBegin_ruleStep fs)
  · exact next_ends (.xfer _ _ rfl)
  · exact modePolledStep_ends fun s' hs => next_ends (.xfer _ _ hs)
  · cases fs with
    | empty => exact readScratch_ends fun _ => next_ends (.xfer _ _ rfl)
    | full r => exact next_ends (.xfer _ _ rfl)
  · cases fs with
    | empty => exact fault_ends _
    | full r => exact next_ends (.xfer _ _ rfl)
  · cases fs with
    | empty => exact fault_ends _
    | full r => exact readScratch_ends fun _ => next_ends (.xfer _ _ rfl)
  · exact readScratch_ends fun _ => modePolledStep_ends fun s' hs =>
      next_ends (.value _ (hs.trans rfl))
  · exact fault_ends _

/-- The inversion of `exec`: everything one step of an instruction can do (R23, R254; log 9). -/
theorem exec_cases (h : exec i s = .next t) : ExecStep i s t := by
  cases i with
  | getStatus | decId | decDlc | decFrame => exact singleStep_cases h (.value _ rfl)
  | encId | encDlc | uartCks | uartBuild => exact singleStep_cases h (.ite (.error _ _ rfl) (.value _ rfl))
  | encFrame => exact singleStep_cases h (.ite (.error _ _ rfl) (.ite (.error _ _ rfl) (.value _ rfl)))
  | uartParse bytes =>
    refine singleStep_cases h ?_
    split
    · exact .error _ _ rfl
    · exact .value _ rfl
  | uartSend type payload =>
    unfold exec execUartSend at h
    refine unlessFault_cases h fun p => ?_
    split
    · exact next_ends (.ite (.error _ _ rfl) (.emit _ _))
    · exact next_ends (.value _ rfl)
    · exact fault_ends _
  | spiReset => exact oneXfer_cases h (.xfer _ _ rfl) (next_ends (.value _ rfl))
  | regWrite | bitModify | rts | loadTx =>
    exact oneXfer_cases h (.ite (.error _ _ rfl) (.xfer _ _ rfl)) (next_ends (.value _ rfl))
  | regRead | readRx =>
    exact oneXfer_cases h (.ite (.error _ _ rfl) (.xfer _ _ rfl))
      (readScratch_ends fun _ => next_ends (.value _ rfl))
  | readStatus | rxStatus =>
    exact oneXfer_cases h (.xfer _ _ rfl) (readScratch_ends fun _ => next_ends (.value _ rfl))
  | busState =>
    exact oneXfer_cases h (.ite (.xfer _ _ rfl) (.error _ _ rfl))
      (readScratch_ends fun _ => next_ends (.value _ rfl))
  | init => exact execInit_cases h
  | setMode => exact execSetMode_cases h
  | send => exact execSend_cases h
  | pollReceive => exact execPollReceive_cases h
  | listen => exact execListen_cases h
  | spiInstrReset | spiRead | spiReadRxBuffer | spiWrite | spiLoadTxBuffer | spiRts | spiReadStatus
  | spiRxStatus | spiBitModify =>
    cases h
    exact .port rfl

end

/-! ### The command port over a step -/

section
variable {i : Instr} {s t : State}

@[simp] theorem deviceXfer_hostPort (tx : List Byte) (d : Device) (e : Env) :
    (deviceXfer tx d e).env.hostPort = e.hostPort := by
  obtain ⟨-, hport, -⟩ := deviceXfer_keeps tx d e
  exact hport

@[simp] theorem raiseError_env (o : Operation) (e : ErrorCode) (info : Byte) (s : State) :
    (raiseError o e info s).env = s.env := by
  unfold raiseError
  split
  · rfl
  · rfl

theorem RuleStep.hostPort (h : RuleStep i s t) : t.env.hostPort = s.env.hostPort := by
  cases h with
  | xfer tx p h => exact (deviceXfer_hostPort ..).trans h.hostPort
  | emit l p => rfl
  | value v h => exact h.hostPort
  | error e info h => rw [raiseOp, raiseError_env, h.hostPort]

/-- No instruction reads or writes the command port. -/
theorem exec_hostPort (h : exec i s = .next t) : t.env.hostPort = s.env.hostPort := by
  cases exec_cases h with
  | faulted => rfl
  | running _ ht => exact ht.hostPort
  | port _ => exact deviceXfer_hostPort ..

theorem linkStep_hostPort {frame : List Byte} (h : linkStep frame s = .next t) :
    t.env.hostPort = s.env.hostPort := by
  unfold linkStep at h
  split at h
  · exact exec_hostPort h
  · cases h
    exact deviceXfer_hostPort ..

theorem busyStep_hostPort (h : busyStep s = .next t) : t.env.hostPort = s.env.hostPort := by
  unfold busyStep at h
  split at h
  · cases h
  · split at h
    · exact exec_hostPort h
    · cases h
      rw [raiseError_env]
    · cases h

@[simp] theorem deliver_env (c : Byte) (s : State) : (deliver c s).env = s.env := by
  simp [deliver, apply_ite State.env]

@[simp] theorem urxByte_env (b : Byte) (s : State) : (urxByte b s).env = s.env := by
  unfold urxByte
  dsimp only
  split
  · exact deliver_env _ _
  · rfl

theorem urxStep_hostPort (s : State) : (urxStep s).env.hostPort = s.env.hostPort := by
  unfold urxStep
  split
  · rfl
  · rw [urxByte_env]

theorem deviceTurn_env (f : Device → Device) (s : State) : (deviceTurn f s).env = s.env := by
  unfold deviceTurn
  split
  · rfl
  · rfl

theorem drawByte_hostPort (e : Env) : (drawByte e).2.hostPort = e.hostPort := by
  unfold drawByte
  split
  · rfl
  · rfl

theorem modeTurn_hostPort (k : Nat) (s : State) : (modeTurn k s).env.hostPort = s.env.hostPort := by
  unfold modeTurn
  dsimp only
  split
  · rfl
  · exact drawByte_hostPort _

theorem hostStep_held {c d : Command} (h : s.env.hostPort = some d) : hostStep c s = s := by
  simp [hostStep, h]

theorem hostStep_free {c : Command} (h : s.env.hostPort = none) (hc : isOperation c = true) :
    hostStep c s = { s with env := { s.env with hostPort := some c } } := by
  simp [hostStep, h, hc]

/-- While SEQ is BUSY no agent's turn takes the operation off the port or puts another there (R292); for the turn
of block reset that is the model's choice (log 3). -/
theorem turnStep_hostPort_held {u : Turn} {c : Command} (hb : s.seqState = .busy)
    (hc : s.env.hostPort = some c) (h : turnStep u s = .next t) : t.env.hostPort = some c := by
  rw [← hc]
  cases u with
  | seq =>
    simp only [turnStep, seqStep, hb] at h
    exact busyStep_hostPort h
  | host c' =>
    cases h
    rw [hostStep_held hc]
  | peer b => cases h; rfl
  | urx => cases h; exact urxStep_hostPort s
  | blockReset => cases h; rfl
  | deviceMode k => cases h; exact modeTurn_hostPort k s
  | busFrame named img other => cases h; rw [deviceTurn_env]
  | txDone n named img other => cases h; rw [deviceTurn_env]

theorem drawTurn_hostPort (e : Env) : (drawTurn e).2.hostPort = e.hostPort := by
  obtain ⟨u, rest, -, h⟩ | ⟨-, h⟩ := drawTurn_cases e
  · rw [h]
  · rw [h]

/-- While SEQ is BUSY the port holds its operation, whoever moves (R292). -/
theorem step_hostPort_held {c : Command} (hb : s.seqState = .busy) (hc : s.env.hostPort = some c)
    (h : step s = .next t) : t.env.hostPort = some c := by
  obtain ⟨frame, -, hs⟩ | ⟨-, hs⟩ := step_cases s
  · rw [hs] at h
    exact (linkStep_hostPort h).trans hc
  · rw [hs] at h
    refine turnStep_hostPort_held ?_ ?_ h
    · exact hb
    · exact (drawTurn_hostPort s.env).trans hc

/-- With the environment's choices used up, the turn is a free value (log 3). -/
theorem step_free (hl : s.link = none) (ht : s.env.turns = []) :
    step s =
      turnStep (Config.freeTurn s.env.turnDraws)
        { s with env := { s.env with turnDraws := s.env.turnDraws + 1 } } := by
  simp [step, agentStep, hl, drawTurn, ht]

end

end Sys2Proof.Machine

/-! ### Which commands are operations -/

namespace Sys2Proof

theorem Opcode.byte_of_ofByte {b : Byte} {o : Opcode} (h : Opcode.ofByte b = some o) : o.byte = b := by
  simpa using List.find?_some h

/-- R90 read backwards: an opcode and its operand record decode to the operation that has them as its encoding. The
records are taken apart operand by operand, as the decoder's match is too large for `split`. -/
theorem encode_of_decodeRecord {o : Opcode} {ops : List Operand} {i : Instr}
    (h : decodeRecord o ops = some i) : encode i = command o ops := by
  cases o with
  | getStatus | spiReset | readStatus | rxStatus | pollReceive | busState =>
    rcases ops with _ | _ <;> cases h
    rfl
  | decId | decDlc | encFrame | decFrame | uartParse | rts | setMode | send | listen =>
    rcases ops with _ | ⟨⟨⟩, _ | _⟩ <;> cases h
    rfl
  | encId | encDlc | uartCks | uartBuild | uartSend | regRead | regWrite | loadTx | readRx =>
    rcases ops with _ | ⟨⟨⟩, _ | ⟨⟨⟩, _ | _⟩⟩ <;> cases h
    rfl
  | bitModify =>
    rcases ops with _ | ⟨⟨⟩, ops⟩
    case cons.byte addr =>
      rcases ops with _ | ⟨⟨⟩, _ | ⟨⟨⟩, _ | _⟩⟩ <;> cases h
      rfl
    all_goals cases h
  | init =>
    rcases ops with _ | ⟨⟨⟩, ops⟩
    case cons.nat bitrate =>
      rcases ops with _ | ⟨⟨⟩, ops⟩
      case cons.nat crystal =>
        rcases ops with _ | ⟨⟨⟩, _ | ⟨⟨⟩, _ | _⟩⟩ <;> cases h
        rfl
      all_goals cases h
    all_goals cases h

/-- The inversion of `decodeHost`: an illegal opcode (R91), an operation of R90, or a record that R90 does not
fix for its opcode (log 19). -/
theorem decodeHost_cases (c : Command) :
    (Opcode.ofByte c.opcode = none ∧ decodeHost c = .error (.illegalOpcode c.opcode)) ∨
      ∃ o, Opcode.ofByte c.opcode = some o ∧
        ((∃ i, decodeRecord o c.operands = some i ∧ decodeHost c = .ok i) ∨
          decodeHost c = .error (.operandShape c.opcode)) := by
  unfold decodeHost
  cases Opcode.ofByte c.opcode with
  | none => exact .inl ⟨rfl, rfl⟩
  | some o =>
    refine .inr ⟨o, rfl, ?_⟩
    dsimp only
    cases decodeRecord o c.operands with
    | none => exact .inr rfl
    | some i => exact .inl ⟨i, rfl, rfl⟩

theorem encode_of_decodeHost {c : Command} {i : Instr} (h : decodeHost c = .ok i) : encode i = .host c := by
  obtain ⟨-, hd⟩ | ⟨o, ho, ⟨j, hj, hd⟩ | hd⟩ := decodeHost_cases c
  · cases hd.symm.trans h
  · cases hd.symm.trans h
    rw [encode_of_decodeRecord hj, command, Opcode.byte_of_ofByte ho]
  · cases hd.symm.trans h

theorem decodeHost_of_encode {c : Command} {i : Instr} (h : encode i = .host c) : decodeHost c = .ok i := by
  cases i <;> cases h <;> rfl

/-- A command decodes to an operation exactly where it is the operation's encoding (R90). -/
theorem decodeHost_ok_iff (c : Command) (i : Instr) : decodeHost c = .ok i ↔ encode i = .host c :=
  ⟨encode_of_decodeHost, decodeHost_of_encode⟩

namespace Machine

theorem isHostOp_iff (i : Instr) : isHostOp i = true ↔ ∃ c, encode i = .host c := by
  unfold isHostOp
  cases encode i with
  | host c => simp
  | spi frame => simp

theorem commandOf_eq_some_iff (i : Instr) (c : Command) : commandOf i = some c ↔ encode i = .host c := by
  unfold commandOf
  cases encode i with
  | host d => simp
  | spi frame => simp

/-- The commands the host can issue: the illegal opcodes (R91) and the commands that decode (R90). -/
theorem isOperation_iff (c : Command) :
    isOperation c = true ↔ Opcode.ofByte c.opcode = none ∨ ∃ i, decodeHost c = .ok i := by
  unfold isOperation
  obtain ⟨ho, hd⟩ | ⟨o, ho, ⟨i, -, hd⟩ | hd⟩ := decodeHost_cases c <;> simp [ho, hd]

theorem commandOf_isOperation {i : Instr} (h : isHostOp i = true) :
    ∃ c, commandOf i = some c ∧ isOperation c = true := by
  obtain ⟨c, hc⟩ := (isHostOp_iff i).mp h
  exact ⟨c, (commandOf_eq_some_iff i c).mpr hc, (isOperation_iff c).mpr (.inr ⟨i, decodeHost_of_encode hc⟩)⟩

theorem isOperation_iff_commandOf (c : Command) :
    isOperation c = true ↔
      Opcode.ofByte c.opcode = none ∨ ∃ i, isHostOp i = true ∧ commandOf i = some c := by
  rw [isOperation_iff]
  refine or_congr_right (exists_congr fun i => ?_)
  rw [decodeHost_ok_iff, commandOf_eq_some_iff, isHostOp_iff]
  exact ⟨fun h => ⟨⟨c, h⟩, h⟩, And.right⟩

/-! ### O7 -/

/-- Settles O7: the host's and the peer's turns from `step_chosen`, the held port from `step_hostPort_held`,
the free turn from `step_free`, and what an operation is from `isOperation_iff_commandOf`. -/
theorem hostAndPeerSteps : Obligations.HostAndPeerSteps := by
  refine ⟨fun s c rest hl ht => ⟨fun hp hc => ?offer, fun d hd => ?held⟩, fun s b rest hl ht => ?peer,
    fun s t c => step_hostPort_held, fun s => step_free, fun i => commandOf_isOperation,
    isOperation_iff_commandOf⟩
  case offer =>
    exact (step_chosen hl ht).trans (congrArg _ (hostStep_free (s := turnTaken rest s) hp hc))
  case held =>
    exact (step_chosen hl ht).trans (congrArg _ (hostStep_held (s := turnTaken rest s) hd))
  case peer =>
    exact step_chosen hl ht

end Machine

end Sys2Proof
end

section
/-! What one step changes and leaves, for every agent: the other agents' state over an instruction (O11), the one
action of a SEQ step (O8), the history and the UART stream (O9); the steps that run a decoded instruction (O5) or
accept one (O6); and STATUS (O18). -/

namespace Sys2Proof.Machine

/-! ### What draws and transactions leave of the environment -/

/-- A byte draw writes the environment's bytes and their counter, and nothing else of it (R60). -/
theorem drawByte_env (e : Env) :
    (drawByte e).2 =
      { e with miso := (drawByte e).2.miso, byteDraws := (drawByte e).2.byteDraws } := by
  unfold drawByte
  split
  · rfl
  · rfl

theorem drawBytes_env (n : Nat) (e : Env) :
    (drawBytes n e).2 =
      { e with miso := (drawBytes n e).2.miso, byteDraws := (drawBytes n e).2.byteDraws } := by
  induction n generalizing e with
  | zero => rfl
  | succ n ih =>
    simp only [drawBytes]
    rw [drawByte_env e]
    exact ih _

/-- A transaction writes the environment's bytes and their counter, and nothing else of it (R10, R60). -/
theorem deviceXfer_env (tx : List Byte) (d : Device) (e : Env) :
    (deviceXfer tx d e).env =
      { e with miso := (deviceXfer tx d e).env.miso, byteDraws := (deviceXfer tx d e).env.byteDraws } := by
  unfold deviceXfer
  split
  · exact drawBytes_env ..
  · exact drawBytes_env ..
  · dsimp only
    rw [drawByte_env e]
    exact drawBytes_env ..

/-! ### What a rule's own writes leave -/

section
variable {s s' : State}

theorem Prepared.cfg (h : Prepared s s') : s'.cfg = s.cfg := by rw [h]
theorem Prepared.seqState (h : Prepared s s') : s'.seqState = s.seqState := by rw [h]
theorem Prepared.step (h : Prepared s s') : s'.step = s.step := by rw [h]
theorem Prepared.result (h : Prepared s s') : s'.result = s.result := by rw [h]
theorem Prepared.uartTx (h : Prepared s s') : s'.uartTx = s.uartTx := by rw [h]
theorem Prepared.history (h : Prepared s s') : s'.history = s.history := by rw [h]

end

/-- An error enters FAULT where it is fatal, and else ends the operation (R251, R253). -/
theorem raiseError_cases (o : Operation) (e : ErrorCode) (info : Byte) (s : State) :
    (errorFatal e = true ∧ raiseError o e info s = enterFault o e info s) ∨
      (errorFatal e = false ∧ raiseError o e info s = finish o (.err e info) s) := by
  unfold raiseError
  cases h : errorFatal e
  · exact .inr ⟨rfl, rfl⟩
  · exact .inl ⟨rfl, rfl⟩

/-! ### The other agents' state over an instruction -/

/-- What an instruction may not write (R38, R61.7): URX, the parameters, `op`, the peer's bytes, the command port
and the choice of turns. -/
structure LeavesOthers (s t : State) : Prop where
  urx : t.urx = s.urx
  cfg : t.cfg = s.cfg
  op : t.op = s.op
  uartRx : t.env.uartRx = s.env.uartRx
  hostPort : t.env.hostPort = s.env.hostPort
  turns : t.env.turns = s.env.turns
  turnDraws : t.env.turnDraws = s.env.turnDraws

section
variable {i : Instr} {s s' s'' t : State}

theorem LeavesOthers.refl (s : State) : LeavesOthers s s := ⟨rfl, rfl, rfl, rfl, rfl, rfl, rfl⟩

theorem LeavesOthers.trans (h : LeavesOthers s s') (h' : LeavesOthers s' s'') : LeavesOthers s s'' where
  urx := h'.urx.trans h.urx
  cfg := h'.cfg.trans h.cfg
  op := h'.op.trans h.op
  uartRx := h'.uartRx.trans h.uartRx
  hostPort := h'.hostPort.trans h.hostPort
  turns := h'.turns.trans h.turns
  turnDraws := h'.turnDraws.trans h.turnDraws

theorem Prepared.leavesOthers (h : Prepared s s') : LeavesOthers s s' := by
  rw [h]
  exact ⟨rfl, rfl, rfl, rfl, rfl, rfl, rfl⟩

theorem transact_leavesOthers (tx : List Byte) (s : State) : LeavesOthers s (transact tx s) := by
  constructor
  case uartRx | hostPort | turns | turnDraws => rw [transact_env, deviceXfer_env]
  all_goals rfl

theorem seqXfer_leavesOthers (tx : List Byte) (p : Point) (s : State) : LeavesOthers s (seqXfer tx p s) := by
  obtain ⟨hurx, hcfg, hop, hrx, hport, hturns, hdraws⟩ := transact_leavesOthers tx s
  exact ⟨hurx, hcfg, hop, hrx, hport, hturns, hdraws⟩

theorem raiseError_leavesOthers (o : Operation) (e : ErrorCode) (info : Byte) (s : State) :
    LeavesOthers s (raiseError o e info s) := by
  obtain ⟨-, h⟩ | ⟨-, h⟩ := raiseError_cases o e info s
  · rw [h]
    exact ⟨rfl, rfl, rfl, rfl, rfl, rfl, rfl⟩
  · rw [h]
    exact ⟨rfl, rfl, rfl, rfl, rfl, rfl, rfl⟩

theorem RuleStep.leavesOthers (h : RuleStep i s t) : LeavesOthers s t := by
  cases h with
  | xfer tx p h => exact h.leavesOthers.trans (seqXfer_leavesOthers tx p _)
  | emit l p => exact ⟨rfl, rfl, rfl, rfl, rfl, rfl, rfl⟩
  | value v h => exact h.leavesOthers.trans ⟨rfl, rfl, rfl, rfl, rfl, rfl, rfl⟩
  | error e info h => exact h.leavesOthers.trans (raiseError_leavesOthers ..)

theorem exec_leavesOthers (h : exec i s = .next t) : LeavesOthers s t := by
  cases exec_cases h with
  | faulted _ => exact ⟨rfl, rfl, rfl, rfl, rfl, rfl, rfl⟩
  | running _ ht => exact ht.leavesOthers
  | port _ =>
    obtain ⟨hurx, hcfg, hop, hrx, hport, hturns, hdraws⟩ :=
      transact_leavesOthers (frameOf i) { s with link := none }
    exact ⟨hurx, hcfg, hop, hrx, hport, hturns, hdraws⟩

end

/-- Settles O11, by `exec_leavesOthers`. -/
theorem operationsLeaveOtherAgentsAlone : Obligations.OperationsLeaveOtherAgentsAlone := by
  intro i s t h
  obtain ⟨hurx, hcfg, hop, hrx, hport, hturns, hdraws⟩ := exec_leavesOthers h
  exact ⟨hurx, hcfg, hop, hrx, hport, hturns, hdraws⟩

/-! ### What a SEQ step and a step of the device's port can be -/

section
variable {i : Instr} {s t : State} {c : Command}

theorem isHostOp_of_decodeHost (h : decodeHost c = .ok i) : isHostOp i = true :=
  (isHostOp_iff i).mpr ⟨c, encode_of_decodeHost h⟩

theorem isHostOp_of_decodeSpi {frame : List Byte} (h : decodeSpi frame = .ok i) : isHostOp i = false := by
  obtain ⟨b, rest, o, -, -, hi, -⟩ := decodeSpi_ok h
  cases i with
  | spiInstrReset | spiRead | spiReadRxBuffer | spiWrite | spiLoadTxBuffer | spiRts | spiReadStatus
  | spiRxStatus | spiBitModify => rfl
  | _ => unfold spiInstrOf at hi; split at hi <;> simp at hi

/-- An SPI instruction is one transaction on the device's port (log 9). -/
theorem exec_spi (h : isHostOp i = false) (s : State) :
    exec i s = .next (transact (frameOf i) { s with link := none }) := by
  cases i with
  | spiInstrReset | spiRead | spiReadRxBuffer | spiWrite | spiLoadTxBuffer | spiRts | spiReadStatus
  | spiRxStatus | spiBitModify => rfl
  | _ => cases h

theorem singleStep_fault (r : State) (hf : s.seqState = .fault) :
    singleStep i s r = .next (completeFaulted (.legal i) s) := unlessFault_fault i _ hf

theorem oneXfer_fault (r : State) (o : Host.Outcome State Fault Refusal) (hf : s.seqState = .fault) :
    oneXfer i s r o = .next (completeFaulted (.legal i) s) := unlessFault_fault i _ hf

/-- An operation of one step ends in it (R23). -/
theorem singleStep_start (r : State) (h : BusyAt .start s) : singleStep i s r = .next r := by
  obtain ⟨hb, hp⟩ := h
  have hf : s.seqState ≠ .fault := by simp [hb]
  rw [singleStep, unlessFault_run i _ hf, hp]

/-- In FAULT every host operation completes with `Err(Faulted, 0)` (R254, R255.1). -/
theorem exec_fault (h : isHostOp i = true) (hf : s.seqState = .fault) :
    exec i s = .next (completeFaulted (.legal i) s) := by
  cases i with
  | spiInstrReset | spiRead | spiReadRxBuffer | spiWrite | spiLoadTxBuffer | spiRts | spiReadStatus
  | spiRxStatus | spiBitModify => cases h
  | getStatus | encId | decId | encDlc | decDlc | encFrame | decFrame | uartCks | uartBuild | uartParse =>
    exact singleStep_fault _ hf
  | spiReset | regRead | regWrite | bitModify | readStatus | rxStatus | rts | loadTx | readRx | busState =>
    exact oneXfer_fault _ _ hf
  | uartSend type payload =>
    unfold exec execUartSend
    exact unlessFault_fault _ _ hf
  | init bitrate crystal mode silent =>
    unfold exec execInit
    exact unlessFault_fault _ _ hf
  | setMode mode =>
    unfold exec execSetMode
    exact unlessFault_fault _ _ hf
  | send f =>
    unfold exec execSend
    exact unlessFault_fault _ _ hf
  | pollReceive =>
    unfold exec execPollReceive
    exact unlessFault_fault _ _ hf
  | listen fs =>
    unfold exec execListen
    exact unlessFault_fault _ _ hf

/-- A frame on the device's port is taken off it and answered, whatever it is (log 9, log 17). -/
theorem linkStep_transacts (frame : List Byte) (s : State) :
    ∃ tx, linkStep frame s = .next (transact tx { s with link := none }) := by
  unfold linkStep
  split
  · rename_i i hi
    exact ⟨_, exec_spi (isHostOp_of_decodeSpi hi) s⟩
  · exact ⟨_, rfl⟩

/-- What SEQ's step can do (R21): run its operation's rule, complete an illegal opcode, wait, accept the
operation on the port, or refuse it in FAULT. -/
inductive SeqMove (s : State) : State → Prop
  | runs {i : Instr} {t : State} (hb : s.seqState = .busy) (ht : RuleStep i s t) : SeqMove s t
  | illegal (b : Byte) (hb : s.seqState = .busy) :
    SeqMove s (raiseError (.illegal b) .illegalCommand b s)
  | waits (hb : s.seqState ≠ .busy) : SeqMove s s
  | accepts (c : Command) (hb : s.seqState = .idle) : SeqMove s (accept c (takeOffer s))
  | refuses (o : Operation) (hb : s.seqState = .fault) : SeqMove s (completeFaulted o (takeOffer s))

theorem busyStep_cases (hb : s.seqState = .busy) (h : busyStep s = .next t) : SeqMove s t := by
  unfold busyStep at h
  split at h
  · cases h
  · split at h
    · rename_i i hd
      cases exec_cases h with
      | faulted hf => cases hb.symm.trans hf
      | running _ ht => exact .runs hb ht
      | port hp => cases (isHostOp_of_decodeHost hd).symm.trans hp
    · cases h
      exact .illegal _ hb
    · cases h

theorem faultStep_cases (hf : s.seqState = .fault) (h : faultStep c s = .next t) :
    ∃ o, t = completeFaulted o s := by
  unfold faultStep at h
  split at h
  · rename_i i hd
    rw [exec_fault (isHostOp_of_decodeHost hd) hf] at h
    cases h
    exact ⟨_, rfl⟩
  · cases h
    exact ⟨_, rfl⟩
  · cases h

/-- The inversion of `seqStep`. -/
theorem seqStep_cases (h : seqStep s = .next t) : SeqMove s t := by
  cases hb : s.seqState with
  | busy =>
    simp only [seqStep, hb] at h
    exact busyStep_cases hb h
  | idle =>
    have hwaits : s.seqState ≠ .busy := by simp [hb]
    cases hp : s.env.hostPort with
    | none =>
      simp only [seqStep, hb, hp] at h
      cases h
      exact .waits hwaits
    | some c =>
      simp only [seqStep, hb, hp] at h
      cases h
      exact .accepts c hb
  | fault =>
    have hwaits : s.seqState ≠ .busy := by simp [hb]
    cases hp : s.env.hostPort with
    | none =>
      simp only [seqStep, hb, hp] at h
      cases h
      exact .waits hwaits
    | some c =>
      simp only [seqStep, hb, hp] at h
      obtain ⟨o, rfl⟩ := faultStep_cases (s := takeOffer s) hb h
      exact .refuses o hb

end

/-! ### One action a step -/

/-- One action of SEQ (R23, R293): a transaction or a UART unit with `step` one higher, or the end of the
operation with its result and its `Done` event. -/
def OneAction (s t : State) : Prop :=
  (t.seqState = .busy ∧ t.step = s.step + 1 ∧ t.result = s.result ∧
      ((∃ tx rx, t.history = s.history ++ [.spi tx rx] ∧ rx.length = tx.length ∧ t.uartTx = s.uartTx) ∨
        ∃ l, t.history = s.history ++ [.uartTx l] ∧ t.uartTx = s.uartTx ++ [l])) ∨
    (t.seqState ≠ .busy ∧ t.step = 0 ∧ t.uartTx = s.uartTx ∧ ∃ o, t.history = s.history ++ [.done o t.result])

section
variable {i : Instr} {s s' t : State}

/-- A rule's own writes are no action. -/
theorem OneAction.prepared (h : Prepared s s') (ht : OneAction s' t) : OneAction s t := by
  unfold OneAction at ht ⊢
  rwa [h.step, h.result, h.history, h.uartTx] at ht

theorem seqXfer_oneAction (tx : List Byte) (p : Point) (hb : s.seqState = .busy) :
    OneAction s (seqXfer tx p s) :=
  .inl ⟨hb, rfl, rfl, .inl ⟨tx, _, rfl, deviceXfer_length .., rfl⟩⟩

theorem seqEmit_oneAction (l : List Byte) (p : Point) (hb : s.seqState = .busy) :
    OneAction s (seqEmit l p s) :=
  .inl ⟨hb, rfl, rfl, .inr ⟨l, rfl, rfl⟩⟩

theorem finish_oneAction (o : Operation) (r : OpResult) (s : State) : OneAction s (finish o r s) :=
  .inr ⟨nofun, rfl, rfl, o, rfl⟩

theorem raiseError_oneAction (o : Operation) (e : ErrorCode) (info : Byte) (s : State) :
    OneAction s (raiseError o e info s) := by
  obtain ⟨-, h⟩ | ⟨-, h⟩ := raiseError_cases o e info s
  · rw [h]
    exact .inr ⟨nofun, rfl, rfl, o, rfl⟩
  · rw [h]
    exact finish_oneAction ..

theorem RuleStep.oneAction (hb : s.seqState = .busy) (h : RuleStep i s t) : OneAction s t := by
  cases h with
  | xfer tx p h => exact .prepared h (seqXfer_oneAction tx p (h.seqState.trans hb))
  | emit l p => exact seqEmit_oneAction l p hb
  | value v h => exact .prepared h (finish_oneAction ..)
  | error e info h => exact .prepared h (raiseError_oneAction ..)

theorem seqStep_oneAction (hb : s.seqState = .busy) (h : seqStep s = .next t) : OneAction s t := by
  cases seqStep_cases h with
  | runs _ ht => exact ht.oneAction hb
  | illegal b _ => exact raiseError_oneAction ..
  | waits hn => exact absurd hb hn
  | accepts c hi => cases hb.symm.trans hi
  | refuses o hf => cases hb.symm.trans hf

end

/-- Settles O8: the step is `seqStep` (`step_chosen`), which takes one action (`seqStep_oneAction`). -/
theorem eachStepIsOneAction : Obligations.EachStepIsOneAction := by
  intro s t rest hb ⟨hl, ht⟩ h
  rw [step_chosen hl ht] at h
  exact seqStep_oneAction (s := turnTaken rest s) hb h

/-! ### The history and the UART stream -/

/-- `t` comes after `s`: the same parameters, a longer history, and the UART stream longer by the units of the new
events (R34, R37, R233). -/
def Continues (s t : State) : Prop :=
  t.cfg = s.cfg ∧ ∃ es, t.history = s.history ++ es ∧ t.uartTx = s.uartTx ++ txUnits es

theorem txUnits_append (es es' : List Event) : txUnits (es ++ es') = txUnits es ++ txUnits es' := by
  induction es with
  | nil => rfl
  | cons e es ih => cases e <;> simp [txUnits, ih]

section
variable {i : Instr} {s s' s'' t : State}

/-- A step that writes none of the three. -/
theorem Continues.of_same (hc : t.cfg = s.cfg) (hh : t.history = s.history) (hu : t.uartTx = s.uartTx) :
    Continues s t := ⟨hc, [], by simp [hh], by simp [hu, txUnits]⟩

/-- A step with one event that is no unit's. -/
theorem Continues.of_event {e : Event} (hc : t.cfg = s.cfg) (hh : t.history = s.history ++ [e])
    (hu : t.uartTx = s.uartTx) (he : txUnits [e] = []) : Continues s t := ⟨hc, [e], hh, by simp [hu, he]⟩

theorem Continues.trans (h : Continues s s') (h' : Continues s' s'') : Continues s s'' := by
  obtain ⟨hc, es, hh, hu⟩ := h
  obtain ⟨hc', es', hh', hu'⟩ := h'
  exact ⟨hc'.trans hc, es ++ es', by simp [hh', hh], by simp [hu', hu, txUnits_append]⟩

theorem Prepared.continues (h : Prepared s s') : Continues s s' := .of_same h.cfg h.history h.uartTx

theorem emitUart_continues (l : List Byte) (s : State) : Continues s (emitUart l s) := ⟨rfl, [.uartTx l], rfl, rfl⟩

theorem transact_continues (tx : List Byte) (s : State) : Continues s (transact tx s) := .of_event rfl rfl rfl rfl

theorem finish_continues (o : Operation) (r : OpResult) (s : State) : Continues s (finish o r s) :=
  .of_event rfl rfl rfl rfl

theorem raiseError_continues (o : Operation) (e : ErrorCode) (info : Byte) (s : State) :
    Continues s (raiseError o e info s) := by
  obtain ⟨-, h⟩ | ⟨-, h⟩ := raiseError_cases o e info s
  · rw [h]
    exact .of_event rfl rfl rfl rfl
  · rw [h]
    exact finish_continues ..

theorem RuleStep.continues (h : RuleStep i s t) : Continues s t := by
  cases h with
  | xfer tx p h => exact h.continues.trans (.of_event rfl rfl rfl rfl)
  | emit l p => exact (emitUart_continues l s).trans (.of_same rfl rfl rfl)
  | value v h => exact h.continues.trans (finish_continues ..)
  | error e info h => exact h.continues.trans (raiseError_continues ..)

theorem seqStep_continues (h : seqStep s = .next t) : Continues s t := by
  cases seqStep_cases h with
  | runs _ ht => exact ht.continues
  | illegal b _ => exact raiseError_continues ..
  | waits _ => exact .of_same rfl rfl rfl
  | accepts c _ => exact .of_same rfl rfl rfl
  | refuses o _ => exact .of_event rfl rfl rfl rfl

/-- A delivered frame is one event, and one unit where it is acknowledged (R231). -/
theorem deliver_continues (c : Byte) (s : State) : Continues s (deliver c s) := by
  have event (e : Event) (he : txUnits [e] = []) : Continues s (logEvent e s) := .of_event rfl rfl rfl he
  unfold deliver
  dsimp only
  split
  · split
    · exact (event _ rfl).trans (emitUart_continues ..)
    · exact event _ rfl
  · split
    · exact (event _ rfl).trans (emitUart_continues ..)
    · exact event _ rfl

theorem urxByte_continues (b : Byte) (s : State) : Continues s (urxByte b s) := by
  have received : Continues s (logEvent (.uartRx b) s) := .of_event rfl rfl rfl rfl
  unfold urxByte
  dsimp only
  split
  · exact received.trans (deliver_continues b _)
  · exact received

theorem urxStep_continues (s : State) : Continues s (urxStep s) := by
  unfold urxStep
  split
  · exact .of_same rfl rfl rfl
  · exact urxByte_continues _ { s with env := _ }

theorem deviceTurn_continues (f : Device → Device) (s : State) : Continues s (deviceTurn f s) := by
  unfold deviceTurn
  split
  · exact .of_same rfl rfl rfl
  · exact .of_same rfl rfl rfl

theorem modeTurn_continues (k : Nat) (s : State) : Continues s (modeTurn k s) := by
  unfold modeTurn
  dsimp only
  split
  · exact .of_same rfl rfl rfl
  · exact .of_same rfl rfl rfl

theorem turnStep_continues {u : Turn} (h : turnStep u s = .next t) : Continues s t := by
  cases u with
  | seq => exact seqStep_continues h
  | host c => cases h; exact .of_same (hostStep_cfg c s) (hostStep_history c s) (hostStep_uartTx c s)
  | peer b => cases h; exact .of_same rfl rfl rfl
  | urx => cases h; exact urxStep_continues s
  | blockReset => cases h; exact .of_event rfl rfl rfl rfl
  | deviceMode k => cases h; exact modeTurn_continues k s
  | busFrame named img other => cases h; exact deviceTurn_continues ..
  | txDone n named img other => cases h; exact deviceTurn_continues ..

theorem step_continues (h : step s = .next t) : Continues s t := by
  obtain ⟨frame, -, hs⟩ | ⟨-, hs⟩ := step_cases s
  · obtain ⟨tx, hx⟩ := linkStep_transacts frame s
    cases (hs.trans hx).symm.trans h
    exact transact_continues tx { s with link := none }
  · exact turnStep_continues (s := { s with env := (drawTurn s.env).2 }) (hs.symm.trans h)

end

/-- Settles O9, by `step_continues`. -/
theorem historyAndStreamOnlyGrow : Obligations.HistoryAndStreamOnlyGrow := fun _ _ => step_continues

/-! ### The steps of SEQ that O5 and O6 name -/

/-- Settles O5: `seqStep_busy`, and for the device's port and FAULT the branches of `linkStep` and `faultStep`. -/
theorem stepRunsTheDecodedInstruction : Obligations.StepRunsTheDecodedInstruction := by
  refine ⟨?busy, ?port, ?fault⟩
  case busy =>
    intro s c i rest hb ⟨hl, ht⟩ hop hd
    exact (step_chosen hl ht).trans (seqStep_busy (s := turnTaken rest s) hb hop hd)
  case port =>
    intro s frame i hl hd
    have hspi : decodeSpi frame = .ok i := hd
    simp only [step, agentStep, hl, linkStep, hspi]
  case fault =>
    intro s c i rest hf ⟨hl, ht⟩ hp hd
    have hhost : decodeHost c = .ok i := hd
    rw [step_chosen hl ht]
    simp only [turnStep, seqStep, hf, hp, faultStep, hhost]
    rfl

/-- Settles O6: SEQ's turn in IDLE with an operation on the port is `accept` of it. -/
theorem acceptingAnOperation : Obligations.AcceptingAnOperation := by
  intro s c rest hi ⟨hl, ht⟩ hp
  rw [step_chosen hl ht]
  simp only [turnStep, seqStep, hi, hp]
  rfl

/-! ### STATUS -/

theorem statusWord_mode (s : State) : (statusWord s).extractLsb' 4 3 = curModeCode s.curMode := by
  apply BitVec.eq_of_getLsbD_eq
  intro k hk
  simp only [statusWord, BitVec.getLsbD_extractLsb', BitVec.getLsbD_append]
  interval_cases k <;> simp

theorem statusWord_faultCode (s : State) : (statusWord s).extractLsb' 8 8 = s.faultCode := by
  apply BitVec.eq_of_getLsbD_eq
  intro k hk
  simp only [statusWord, BitVec.getLsbD_extractLsb', BitVec.getLsbD_append]
  interval_cases k <;> simp

/-- Settles O18: the bits of `statusWord`'s concatenation one by one; GET_STATUS by `singleStep_start`. -/
theorem statusWordFields : Obligations.StatusWordFields := by
  refine ⟨rfl, fun s => ⟨?busy, ?fault, ?init, ?flock, ?mode, ?reserved, statusWord_faultCode s,
    fun h => singleStep_start _ h⟩⟩
  case busy | fault =>
    simp only [statusWord, BitVec.getLsbD_append]
    simp
    rfl
  case init | flock | reserved =>
    simp only [statusWord, BitVec.getLsbD_append]
    simp
  case mode =>
    rw [statusWord_mode]
    cases s.curMode with
    | known m => cases m <;> rfl
    | unknown => rfl

end Sys2Proof.Machine
end

section
/-! The machine's invariant: it holds at reset (O1, O2), and from a state that meets it every step of every agent
answers a next state (O4) that meets it again (O3). One pass over the rules gives both. -/

namespace Sys2Proof.Machine

/-! ### The parts of the invariant -/

section
variable {s t : State}

theorem attemptInv_of_zero (h : s.attempt = 0) (hp : s.seqState ≠ .busy ∨ inModeSet s.scratch.point = false) :
    AttemptInv s := by
  have hout : ¬ (s.seqState = .busy ∧ inModeSet s.scratch.point = true) := by
    rintro ⟨hb, hm⟩
    obtain hn | hn := hp
    · exact hn hb
    · exact absurd hm (by simp [hn])
  exact ⟨fun hin => absurd hin hout, fun _ => h⟩

theorem attemptInv_of_running (hb : s.seqState = .busy) (hp : inModeSet s.scratch.point = true)
    (h : 1 ≤ s.attempt ∧ s.attempt ≤ Config.modeAttempts) : AttemptInv s :=
  ⟨fun _ => h, fun hn => absurd ⟨hb, hp⟩ hn⟩

theorem fifoInv_of_nil (h : s.rxFifo = []) : FifoInv s := ⟨by simp [h], fun hn => absurd h hn⟩

theorem Inv.attempt_zero (h : Inv s) (hp : s.seqState ≠ .busy ∨ inModeSet s.scratch.point = false) :
    s.attempt = 0 := by
  obtain ⟨-, hz⟩ := h.attempt
  refine hz fun ⟨hb, hm⟩ => ?_
  obtain hn | hn := hp
  · exact hn hb
  · exact absurd hm (by simp [hn])

theorem Inv.attempt_bounds (h : Inv s) (hb : s.seqState = .busy) (hp : inModeSet s.scratch.point = true) :
    1 ≤ s.attempt ∧ s.attempt ≤ Config.modeAttempts := h.attempt.1 ⟨hb, hp⟩

theorem Inv.rxFifo_nil (h : Inv s) (hn : ¬ (s.seqState = .busy ∧ s.scratch.point = .sent 2 ∧
    s.op = commandOf .pollReceive)) : s.rxFifo = [] := by
  obtain ⟨-, hpoll⟩ := h.fifo
  by_contra hne
  exact hn (hpoll hne)

/-- Outside BUSY the invariant leaves SEQ no choice but its beliefs and the fault code. -/
theorem inv_of_notBusy (hb : s.seqState ≠ .busy) (hcode : FaultCodeInv s) (hmode : ModeKnownInv s)
    (hatt : s.attempt = 0) (hstep : s.step = 0) (hfifo : s.rxFifo = []) (hurx : UrxInv s.urx)
    (hoff : OffersInv s) (hmem : s.dev.Canonical) : Inv s where
  faultCode := hcode
  modeKnown := hmode
  attempt := attemptInv_of_zero hatt (.inl hb)
  step := ⟨fun _ => hstep, fun h => absurd h hb⟩
  fifo := fifoInv_of_nil hfifo
  urx := hurx
  position := fun h => absurd h hb
  offers := hoff
  memory := hmem

/-- `t` has SEQ's registers and the parameters as `s` has them, but for `result`. -/
def SameSeq (s t : State) : Prop :=
  t =
    { s with
      result := t.result
      urx := t.urx
      uartTx := t.uartTx
      dev := t.dev
      env := t.env
      history := t.history
      link := t.link }

/-- What the invariant says beside SEQ: URX, the command port, and the device's registers. -/
theorem Inv.of_sameSeq (h : Inv s) (hst : SameSeq s t) (hurx : UrxInv t.urx)
    (hport : ∀ c, t.env.hostPort = some c → isOperation c = true) (hmem : t.dev.Canonical) : Inv t := by
  obtain ⟨-, hop⟩ := h.offers
  rw [hst]
  exact
    { faultCode := h.faultCode
      modeKnown := h.modeKnown
      attempt := h.attempt
      step := h.step
      fifo := h.fifo
      urx := hurx
      position := h.position
      offers := ⟨hport, hop⟩
      memory := hmem }

end

/-! ### Reset -/

theorem urxInv_reset : UrxInv Urx.reset := ⟨Nat.zero_le 255, trivial⟩

/-- Settles O1: each clause is a field of `State.reset`. -/
theorem resetLeavesTheSpecifiedValues : Obligations.ResetLeavesTheSpecifiedValues :=
  ⟨rfl, rfl, rfl, rfl, rfl, rfl, rfl, rfl, rfl, rfl, rfl, rfl, rfl, rfl, rfl, rfl, rfl, rfl, rfl, rfl, rfl⟩

/-- Settles O2: SEQ is IDLE at reset, with nothing on the command port (`inv_of_notBusy`). -/
theorem invariantHoldsAtReset : Obligations.InvariantHoldsAtReset :=
  inv_of_notBusy nofun ⟨fun _ => rfl, nofun⟩ nofun rfl rfl rfl urxInv_reset ⟨nofun, nofun⟩ Memory.wf_nil

/-- Block reset gives SEQ and URX their reset values, whatever stood in them (R280). -/
theorem blockReset_inv {s : State} (h : Inv s) : Inv (blockReset s) := by
  obtain ⟨hport, -⟩ := h.offers
  exact inv_of_notBusy nofun ⟨fun _ => rfl, nofun⟩ nofun rfl rfl rfl urxInv_reset ⟨hport, nofun⟩ h.memory

/-! ### URX -/

theorem byteSum_append (l l' : List Byte) : byteSum (l ++ l') = byteSum l + byteSum l' := by
  induction l with
  | nil => simp [byteSum]
  | cons b l ih => simp [byteSum, ih, Nat.add_assoc]

/-- The payload after a byte in DATA: the bytes so far and that one (R230). -/
theorem urxPayload_push (u : Urx) (b : Byte) (h : u.cnt < 255) :
    urxPayload { u with buf := u.buf.setIfInBounds u.cnt b } (u.cnt + 1) = urxPayload u u.cnt ++ [b] := by
  have hlen : u.cnt < u.buf.toList.length := by simpa using h
  simp [urxPayload, List.take_add_one, List.getElem?_set_self hlen, List.take_set_of_le]

theorem addSum_ofNat (n : Nat) (b : Byte) : addSum (BitVec.ofNat 8 n) b = BitVec.ofNat 8 (n + b.toNat) := by
  simp [addSum, BitVec.ofNat_add]

/-- Every byte keeps URX's counter, and its sum the sum of what came so far (R16, R230). -/
theorem urxNext_inv {u : Urx} (b : Byte) (h : UrxInv u) : UrxInv (urxNext u b) := by
  obtain ⟨hcnt, hstate⟩ := h
  unfold urxNext
  cases hu : u.state with
  | hunt =>
    dsimp only
    split
    · exact ⟨hcnt, trivial⟩
    · exact ⟨hcnt, by rw [hu]; trivial⟩
  | type => exact ⟨hcnt, rfl⟩
  | len =>
    rw [hu] at hstate
    have hsum : addSum u.sum b = BitVec.ofNat 8 (u.utype.toNat + b.toNat + byteSum []) := by
      rw [hstate]
      simp [addSum, byteSum, BitVec.ofNat_add]
    refine ⟨Nat.zero_le 255, ?_⟩
    dsimp only
    by_cases hb : b = 0x00
    · rw [if_pos hb]
      exact ⟨by simp [hb], hsum⟩
    · rw [if_neg hb]
      have hpos : b.toNat ≠ 0 := fun h0 => hb (BitVec.eq_of_toNat_eq h0)
      exact ⟨Nat.pos_of_ne_zero hpos, hsum⟩
  | data =>
    rw [hu] at hstate
    obtain ⟨hlt, hsum⟩ := hstate
    have hlen : u.len.toNat < 256 := u.len.isLt
    have hsum' : addSum u.sum b =
        BitVec.ofNat 8 (u.utype.toNat + u.len.toNat + byteSum (urxPayload u u.cnt ++ [b])) := by
      rw [hsum, addSum_ofNat, byteSum_append]
      simp [byteSum, Nat.add_assoc]
    rw [← urxPayload_push u b (by omega)] at hsum'
    refine ⟨(by omega : u.cnt + 1 ≤ 255), ?_⟩
    dsimp only
    by_cases hend : u.cnt + 1 = u.len.toNat
    · rw [if_pos hend]
      exact ⟨hend, hsum'⟩
    · rw [if_neg hend]
      exact ⟨by omega, hsum'⟩
  | cks => exact ⟨hcnt, trivial⟩

/-! ### The agents beside SEQ -/

section
variable {s t : State}

theorem Inv.hostPort (h : Inv s) : ∀ c, s.env.hostPort = some c → isOperation c = true := h.offers.1

theorem deliver_sameSeq (c : Byte) (s : State) : SameSeq s (deliver c s) := by
  unfold deliver SameSeq
  dsimp only
  split
  · split
    · rfl
    · rfl
  · split
    · rfl
    · rfl

theorem urxByte_sameSeq (b : Byte) (s : State) : SameSeq s (urxByte b s) := by
  unfold urxByte
  dsimp only
  split
  · have hd := deliver_sameSeq b (logEvent (.uartRx b) s)
    unfold SameSeq at hd ⊢
    rw [hd]
    rfl
  · rfl

theorem deliver_dev (c : Byte) (s : State) : (deliver c s).dev = s.dev := by
  simp [deliver, apply_ite State.dev]

theorem urxByte_dev (b : Byte) (s : State) : (urxByte b s).dev = s.dev := by
  unfold urxByte
  dsimp only
  split
  · exact deliver_dev _ _
  · rfl

theorem urxStep_inv (h : Inv s) : Inv (urxStep s) := by
  unfold urxStep
  split
  · exact h
  · rename_i b rest _
    have hrest : Inv { s with env := { s.env with uartRx := rest } } := h.of_sameSeq rfl h.urx h.hostPort h.memory
    refine hrest.of_sameSeq (urxByte_sameSeq b _) (urxNext_inv b h.urx) ?_ ?_
    · rw [urxByte_env]
      exact h.hostPort
    · rw [urxByte_dev]
      exact h.memory

theorem hostStep_inv (c : Command) (h : Inv s) : Inv (hostStep c s) := by
  obtain ⟨-, hc, heq⟩ | heq := hostStep_cases c s
  · rw [heq]
    refine h.of_sameSeq rfl h.urx (fun d hd => ?_) h.memory
    cases hd
    exact hc
  · rw [heq]
    exact h

theorem deviceTurn_inv {f : Device → Device} (hf : ∀ {d : Device}, d.Canonical → (f d).Canonical) (h : Inv s) :
    Inv (deviceTurn f s) := by
  unfold deviceTurn
  split
  · exact h
  · exact h.of_sameSeq rfl h.urx h.hostPort (hf h.memory)

theorem modeTurn_inv (k : Nat) (h : Inv s) : Inv (modeTurn k s) := by
  unfold modeTurn
  dsimp only
  split
  · exact h
  · refine h.of_sameSeq rfl h.urx ?_ (Device.takeMode_canonical k _ h.memory)
    rw [drawByte_env]
    exact h.hostPort

theorem drawTurn_inv (h : Inv s) : Inv { s with env := (drawTurn s.env).2 } := by
  refine h.of_sameSeq rfl h.urx ?_ h.memory
  show ∀ c, (drawTurn s.env).2.hostPort = some c → _
  rw [drawTurn_hostPort]
  exact h.hostPort

/-- A transaction that no operation makes (log 9). -/
theorem transact_inv (tx : List Byte) (h : Inv s) : Inv (transact tx s) := by
  refine h.of_sameSeq rfl h.urx ?_ (deviceXfer_canonical tx _ _ h.memory)
  rw [transact_env, deviceXfer_hostPort]
  exact h.hostPort

end

/-! ### SEQ at work -/

/-- SEQ is BUSY, and what the invariant says of the state wherever the operation stands. -/
structure Working (s : State) : Prop where
  busy : s.seqState = .busy
  faultCode : s.faultCode = 0x00
  modeKnown : ModeKnownInv s
  urx : UrxInv s.urx
  offers : OffersInv s
  memory : s.dev.Canonical

/-- SEQ works on the operation `i`. -/
structure WorkingOn (i : Instr) (s : State) : Prop extends Working s where
  op : ∃ c, s.op = some c ∧ decodeHost c = .ok i

/-- No mode-set procedure runs, and the FIFO is empty (R24, R30). -/
def Settled (s : State) : Prop := s.attempt = 0 ∧ s.rxFifo = []

/-- ModeSet `c` of the operation `i` may go on with these locals: its positions are `i`'s, and so are the locals
that `i` reads there. -/
def ModeReady (cfg : Params) (i : Instr) (c : ModeCall) (k : Scratch) : Prop :=
  ∀ l : List Byte, Ready cfg i { k with rx := some l, point := .modeWritten c } ∧
    (l.length = 3 → Ready cfg i { k with rx := some l, point := .modePolled c })

/-- The state in which ModeSet returns to its caller: the mode is known, and no attempt runs (R150). -/
def modeConfirmed (m : Mode) (s : State) : State := { s with attempt := 0, curMode := .known m }

/-- The outcome is a next state that meets the invariant. -/
def Keeps (o : Host.Outcome State Fault Refusal) : Prop := ∃ t, o = .next t ∧ Inv t

theorem keeps_next {t : State} (h : Inv t) : Keeps (.next t) := ⟨t, rfl, h⟩

theorem inv_ite {a b : State} {c : Prop} [Decidable c] (ha : c → Inv a) (hb : ¬ c → Inv b) :
    Inv (if c then a else b) := by
  split_ifs with h
  · exact ha h
  · exact hb h

section
variable {i : Instr} {s s' : State}

theorem Inv.working (h : Inv s) (hb : s.seqState = .busy) : Working s where
  busy := hb
  faultCode := h.faultCode.1 (by simp [hb])
  modeKnown := h.modeKnown
  urx := h.urx
  offers := h.offers
  memory := h.memory

theorem Working.finish (h : Working s) (hs : Settled s) (o : Operation) (r : OpResult) : Inv (finish o r s) := by
  obtain ⟨hatt, hfifo⟩ := hs
  exact inv_of_notBusy nofun ⟨fun _ => h.faultCode, nofun⟩ h.modeKnown hatt rfl hfifo h.urx h.offers h.memory

/-- The code of a fatal error is one of FAULT's (R250, R253). -/
theorem errorCode_of_fatal {e : ErrorCode} (h : errorFatal e = true) :
    errorCode e = 0x10 ∨ errorCode e = 0x11 ∨ errorCode e = 0x12 ∨ errorCode e = 0x13 := by
  cases e with
  | unsupportedBitrate => exact .inl rfl
  | invalidModeCombination => exact .inr (.inl rfl)
  | modeChangeTimeout => exact .inr (.inr (.inl rfl))
  | chipInitFailure => exact .inr (.inr (.inr rfl))
  | _ => cases h

theorem Working.raise (h : Working s) (hs : Settled s) (o : Operation) (e : ErrorCode) (info : Byte) :
    Inv (raiseError o e info s) := by
  obtain ⟨hfatal, heq⟩ | ⟨-, heq⟩ := raiseError_cases o e info s
  · obtain ⟨hatt, hfifo⟩ := hs
    rw [heq]
    exact inv_of_notBusy nofun ⟨fun hn => absurd rfl hn, fun _ => errorCode_of_fatal hfatal⟩ h.modeKnown hatt rfl
      hfifo h.urx h.offers h.memory
  · rw [heq]
    exact h.finish hs o _

/-- A rule's own writes leave SEQ at work. -/
theorem WorkingOn.prepared (h : WorkingOn i s) (hp : Prepared s s') (hm : ModeKnownInv s') : WorkingOn i s' := by
  rw [hp] at hm ⊢
  exact ⟨⟨h.busy, h.faultCode, hm, h.urx, h.offers, h.memory⟩, h.op⟩

theorem WorkingOn.writeLocals (h : WorkingOn i s) (k : Scratch) : WorkingOn i { s with scratch := k } :=
  h.prepared rfl h.modeKnown

/-- A SEQ step of `i` that ends past the start of its rule, at a position whose locals are written. -/
theorem WorkingOn.inv_of_step (h : WorkingOn i s) (hstep : s.step ≠ 0) (hp : s.scratch.point ≠ .start)
    (hatt : AttemptInv s) (hfifo : FifoInv s) (hr : Ready s.cfg i s.scratch) : Inv s where
  faultCode := ⟨fun _ => h.faultCode, fun hf => nomatch h.busy.symm.trans hf⟩
  modeKnown := h.modeKnown
  attempt := hatt
  step := ⟨fun hn => absurd h.busy hn, fun _ => iff_of_false hstep hp⟩
  fifo := hfifo
  urx := h.urx
  position := fun _ => by
    obtain ⟨c, hop, hd⟩ := h.op
    rw [hop]
    dsimp only
    rw [hd]
    exact hr
  offers := h.offers
  memory := h.memory

theorem WorkingOn.transacted (h : WorkingOn i s) (tx : List Byte) (p : Point) : WorkingOn i (seqXfer tx p s) := by
  obtain ⟨hport, hop⟩ := h.offers
  refine ⟨⟨h.busy, h.faultCode, h.modeKnown, h.urx, ⟨?_, hop⟩, deviceXfer_canonical tx _ _ h.memory⟩, h.op⟩
  rw [seqXfer_env, deviceXfer_hostPort]
  exact hport

/-- The general rule of a transaction. -/
theorem WorkingOn.xfer (h : WorkingOn i s) {tx : List Byte} {p : Point} (hp : p ≠ .start)
    (hatt : AttemptInv (seqXfer tx p s)) (hfifo : FifoInv (seqXfer tx p s))
    (hr : ∀ l : List Byte, l.length = tx.length → Ready s.cfg i { s.scratch with rx := some l, point := p }) :
    Inv (seqXfer tx p s) :=
  (h.transacted tx p).inv_of_step (Nat.succ_ne_zero _) hp hatt hfifo (hr _ (deviceXfer_length ..))

/-- A rule's own k-th transaction. -/
theorem WorkingOn.send (h : WorkingOn i s) (hs : Settled s) {tx : List Byte} {k : Nat}
    (hr : ∀ l : List Byte, l.length = tx.length →
      Ready s.cfg i { s.scratch with rx := some l, point := .sent k }) : Inv (seqXfer tx (.sent k) s) := by
  obtain ⟨hatt, hfifo⟩ := hs
  exact h.xfer (p := .sent k) nofun (attemptInv_of_zero hatt (.inr rfl)) (fifoInv_of_nil hfifo) hr

/-- A rule's own UART unit. -/
theorem WorkingOn.emit (h : WorkingOn i s) (hs : Settled s) (l : List Byte) {k : Nat}
    (hr : Ready s.cfg i { s.scratch with point := .sent k }) : Inv (seqEmit l (.sent k) s) := by
  obtain ⟨hatt, hfifo⟩ := hs
  have hon : WorkingOn i (seqEmit l (.sent k) s) :=
    ⟨⟨h.busy, h.faultCode, h.modeKnown, h.urx, h.offers, h.memory⟩, h.op⟩
  exact hon.inv_of_step (Nat.succ_ne_zero _) nofun (attemptInv_of_zero hatt (.inr rfl)) (fifoInv_of_nil hfifo) hr

theorem modeAttempt_inv (h : WorkingOn i s) (hfifo : s.rxFifo = []) (m : Mode) {c : ModeCall}
    (hc : ModeReady s.cfg i c s.scratch) {a : Nat} (ha : 1 ≤ a ∧ a ≤ Config.modeAttempts) :
    Inv (modeAttempt m c a s) :=
  (h.prepared (s' := { s with attempt := a }) rfl h.modeKnown).xfer (tx := modeWriteFrame m)
    (p := .modeWritten c) nofun (attemptInv_of_running h.busy rfl ha) (fifoInv_of_nil hfifo) fun l _ => (hc l).1

theorem modePoll_inv (h : WorkingOn i s) (hfifo : s.rxFifo = []) {c : ModeCall}
    (hc : ModeReady s.cfg i c s.scratch) (ha : 1 ≤ s.attempt ∧ s.attempt ≤ Config.modeAttempts) :
    Inv (modePoll c s) :=
  h.xfer (tx := modePollFrame) (p := .modePolled c) nofun (attemptInv_of_running h.busy rfl ha)
    (fifoInv_of_nil hfifo) fun l => (hc l).2

/-! ### Reading locals -/

theorem readScratch_keeps {α : Type} {x : Option α} {rule : α → Host.Outcome State Fault Refusal}
    (hx : x.isSome = true) (h : ∀ a, Keeps (rule a)) : Keeps (readScratch x rule) := by
  obtain ⟨a, rfl⟩ := Option.isSome_iff_exists.mp hx
  exact h a

theorem rxHas_isSome {n : Nat} {k : Scratch} (h : rxHas n k) : k.rx.isSome = true := by
  obtain ⟨l, hl, -⟩ := h
  simp [hl]

theorem rxByte_isSome {n k : Nat} (h : rxHas n s.scratch) (hk : k < n) : (rxByte s k).isSome = true := by
  obtain ⟨l, hl, rfl⟩ := h
  simp [rxByte, hl, hk]

theorem length_append_dummies (l : List Byte) (n : Nat) : (l ++ dummies n).length = l.length + n := by
  simp [dummies]

theorem imageOfBytes_isSome {l : List Byte} (h : l.length = 13) : (imageOfBytes l).isSome = true := by
  match l, h with
  | [_, _, _, _, _, _, _, _, _, _, _, _, _], _ => rfl

/-! ### The shapes the rules share -/

/-- SEQ's next step is one of the operation `i`. -/
structure Fetched (i : Instr) (s : State) : Prop where
  inv : Inv s
  on : WorkingOn i s
  ready : Ready s.cfg i s.scratch

theorem Fetched.settled (h : Fetched i s) {p : Point} (hp : s.scratch.point = p)
    (hm : inModeSet p = false := by rfl) (h2 : p ≠ .sent 2 ∨ i ≠ .pollReceive := by exact .inr nofun) :
    Settled s := by
  refine ⟨h.inv.attempt_zero (.inr (hp ▸ hm)), h.inv.rxFifo_nil fun ⟨_, hsent, hop⟩ => ?_⟩
  obtain h2 | h2 := h2
  · exact h2 (hp.symm.trans hsent)
  · obtain ⟨c, hc, hd⟩ := h.on.op
    have hpoll : encode .pollReceive = .host c := (commandOf_eq_some_iff _ _).mp (hop.symm.trans hc)
    cases hd.symm.trans (decodeHost_of_encode hpoll)
    exact h2 rfl

theorem Fetched.runs (h : Fetched i s) {rule : Point → Host.Outcome State Fault Refusal} {p : Point}
    (hp : s.scratch.point = p) (hr : Keeps (rule p)) : Keeps (unlessFault i s rule) := by
  have hf : s.seqState ≠ .fault := by simp [h.on.busy]
  rw [unlessFault_run i rule hf, hp]
  exact hr

theorem singleStep_keeps (h : Fetched i s) (hp : s.scratch.point = .start) {r : State} (hr : Inv r) :
    Keeps (singleStep i s r) := h.runs hp (keeps_next hr)

/-- A primitive starts, or goes on after its one transaction. -/
theorem oneXfer_keeps (h : Fetched i s) {b : State} {ending : Host.Outcome State Fault Refusal}
    (hp : s.scratch.point = .start ∨ (s.scratch.point = .sent 0 ∧ Keeps ending))
    (hb : s.scratch.point = .start → Inv b) : Keeps (oneXfer i s b ending) := by
  obtain hp | ⟨hp, he⟩ := hp
  · exact h.runs hp (keeps_next (hb hp))
  · exact h.runs hp he

/-- Inside ModeSet an attempt runs, and the FIFO is empty (R24, R30). -/
theorem Fetched.attempting (h : Fetched i s) {p : Point} (hp : s.scratch.point = p)
    (hm : inModeSet p = true := by rfl) :
    (1 ≤ s.attempt ∧ s.attempt ≤ Config.modeAttempts) ∧ s.rxFifo = [] := by
  refine ⟨h.inv.attempt_bounds h.on.busy (hp ▸ hm), h.inv.rxFifo_nil fun ⟨_, hsent, _⟩ => ?_⟩
  cases hp.symm.trans hsent
  cases hm

/-- ModeSet after a poll: the caller's rule goes on with `attempt` 0 and the mode known, or the procedure goes on,
or it ends the operation (R150, R151). -/
theorem modePolledStep_keeps (h : Fetched i s) {c : ModeCall} (hp : s.scratch.point = .modePolled c)
    (hrx : rxHas 3 s.scratch) (hc : ModeReady s.cfg i c s.scratch) {m : Mode} {e : ErrorCode}
    {rest : State → Host.Outcome State Fault Refusal}
    (hrest : WorkingOn i (modeConfirmed m s) → Settled (modeConfirmed m s) → Keeps (rest (modeConfirmed m s))) :
    Keeps (modePolledStep i m c e s rest) := by
  obtain ⟨ha, hfifo⟩ := h.attempting hp
  refine readScratch_keeps (rxByte_isSome hrx (by decide)) fun canstat => ?_
  obtain ⟨-, heq⟩ | ⟨-, ⟨-, heq⟩ | ⟨-, hlt, heq⟩ | ⟨-, -, heq⟩⟩ := modeCheck_cases m c canstat s
  · rw [heq]
    exact hrest (h.on.prepared (s' := modeConfirmed m s) rfl fun _ => nofun) ⟨rfl, hfifo⟩
  · rw [heq]
    have hon := h.on.prepared (prepared_drawExpiry s s.attempt) h.on.modeKnown
    exact keeps_next (modePoll_inv hon hfifo hc ha)
  · rw [heq]
    have hon := h.on.prepared (prepared_drawExpiry s s.attempt) h.on.modeKnown
    exact keeps_next (modeAttempt_inv hon hfifo m hc ⟨Nat.le_add_left .., hlt⟩)
  · rw [heq]
    have hon := h.on.prepared (prepared_drawExpiry s 0) h.on.modeKnown
    exact keeps_next (hon.raise ⟨rfl, hfifo⟩ ..)

/-- ModeSet after its write: the poll (R150). -/
theorem modePoll_keeps (h : Fetched i s) {c : ModeCall} (hp : s.scratch.point = .modeWritten c)
    (hc : ModeReady s.cfg i c s.scratch) : Keeps (.next (modePoll c s)) := by
  obtain ⟨ha, hfifo⟩ := h.attempting hp
  exact keeps_next (modePoll_inv h.on hfifo hc ha)

theorem modeStart_inv (h : WorkingOn i s) (hs : Settled s) (m : Mode) {c : ModeCall}
    (hc : ModeReady s.cfg i c s.scratch) : Inv (modeStart m c s) := by
  obtain ⟨-, hfifo⟩ := hs
  exact modeAttempt_inv h hfifo m hc (by decide)

/-! ### The rules with several transactions -/

/-- INIT's ModeSet calls have their positions in its rule once the bit rate is found (R160). -/
theorem init_modeReady {bitrate crystal : Nat} {mode : Mode} {silent : Bool} (c : ModeCall)
    (hlook : (bitrateLookup s.cfg.bitrateTable bitrate crystal).isSome = true) :
    ModeReady s.cfg (.init bitrate crystal mode silent) c s.scratch := fun l =>
  ⟨.inr ⟨hlook, .inr (.inl ⟨c, rfl⟩)⟩, fun hl => .inr ⟨hlook, .inr (.inr ⟨c, rfl, l, rfl, hl⟩)⟩⟩

theorem initBegin_inv {bitrate crystal : Nat} {mode : Mode} {silent : Bool}
    (h : WorkingOn (.init bitrate crystal mode silent) s) (hs : Settled s) :
    Inv (initBegin (.init bitrate crystal mode silent) bitrate crystal mode silent s) := by
  refine inv_ite (fun _ => h.raise hs ..) fun _ => ?_
  split
  · exact h.raise hs ..
  · rename_i hlook
    have hfound : (bitrateLookup s.cfg.bitrateTable bitrate crystal).isSome = true := by
      rw [hlook]
      rfl
    refine inv_ite (fun _ => h.raise hs ..) fun _ => ?_
    have hforgot : WorkingOn (.init bitrate crystal mode silent) (forgetDevice s) := h.prepared rfl nofun
    exact hforgot.send hs fun l _ => .inr ⟨hfound, .inl ⟨0, rfl, Nat.zero_le 8⟩⟩

theorem execInit_keeps {bitrate crystal : Nat} {mode : Mode} {silent : Bool}
    (h : Fetched (.init bitrate crystal mode silent) s) : Keeps (execInit bitrate crystal mode silent s) := by
  unfold execInit
  obtain hp | ⟨hlook, ⟨k, hp, hk⟩ | ⟨c, hp⟩ | ⟨c, hp, hrx⟩⟩ := h.ready
  · exact h.runs hp (keeps_next (initBegin_inv h.on (h.settled hp)))
  · have hs := h.settled hp
    have hstart (m : Mode) (c : ModeCall) : Keeps (.next (modeStart m c s)) :=
      keeps_next (modeStart_inv h.on hs m (init_modeReady c hlook))
    refine h.runs hp ?_
    obtain rfl | rfl | ⟨hlo, hhi⟩ : k = 0 ∨ k = 8 ∨ (1 ≤ k ∧ k ≤ 7) := by omega
    · exact hstart .config .first
    · exact hstart mode .second
    · interval_cases k
      all_goals
        exact keeps_next (h.on.send hs fun l _ => .inr ⟨hlook, .inl ⟨_, rfl, by decide⟩⟩)
  · exact h.runs hp (modePoll_keeps h hp (init_modeReady c hlook))
  · refine h.runs hp ?_
    cases c with
    | first =>
      exact modePolledStep_keeps h hp hrx (init_modeReady _ hlook) fun hon hs =>
        readScratch_keeps hlook fun _ =>
          keeps_next (hon.send hs fun l _ => .inr ⟨hlook, .inl ⟨1, rfl, by decide⟩⟩)
    | second =>
      exact modePolledStep_keeps h hp hrx (init_modeReady _ hlook) fun hon hs =>
        keeps_next ((hon.prepared (s' := { modeConfirmed mode s with initialized := true }) rfl
          fun _ => nofun).finish hs ..)

theorem setMode_modeReady (mode : Mode) : ModeReady s.cfg (.setMode mode) .first s.scratch := fun l =>
  ⟨.inr (.inl rfl), fun hl => .inr (.inr ⟨rfl, l, rfl, hl⟩)⟩

theorem execSetMode_keeps {mode : Mode} (h : Fetched (.setMode mode) s) : Keeps (execSetMode mode s) := by
  unfold execSetMode
  obtain hp | hp | ⟨hp, hrx⟩ := h.ready
  · have hs := h.settled hp
    exact h.runs hp (keeps_next (inv_ite (fun _ => modeStart_inv h.on hs _ (setMode_modeReady mode))
      fun _ => h.on.raise hs ..))
  · exact h.runs hp (modePoll_keeps h hp (setMode_modeReady mode))
  · exact h.runs hp (modePolledStep_keeps h hp hrx (setMode_modeReady mode) fun hon hs =>
      keeps_next (hon.finish hs ..))

/-- A frame that passes SEND's checks is well-formed (R102, R164). -/
theorem wf_of_checks {f : CanFrame} (hlen : ¬ longCan f.data.length = true) (hid : ¬ badId f.id f.ext = true) :
    f.wf = true := by
  simp only [longCan, badId, CanFrame.wf, fitsWidth] at *
  cases hext : f.ext
  · simp_all
  · simp_all

theorem sendBegin_inv {f : CanFrame} (h : WorkingOn (.send f) s) (hs : Settled s) :
    Inv (sendBegin (.send f) f s) :=
  inv_ite (fun _ => h.raise hs ..) fun hlen => inv_ite (fun _ => h.raise hs ..) fun hid =>
    inv_ite (fun _ => h.send hs fun l hl => .inr ⟨wf_of_checks hlen hid, .inl ⟨rfl, l, rfl, hl⟩⟩)
      fun _ => h.raise hs ..

theorem sendLoad_inv {f : CanFrame} (h : WorkingOn (.send f) s) (hs : Settled s) (hf : f.wf = true) (st : Byte) :
    Inv (sendLoad (.send f) f st s) := by
  unfold sendLoad
  dsimp only
  split
  · exact (h.writeLocals { s.scratch with st := some st }).raise hs ..
  · rename_i sel _
    exact (h.writeLocals { s.scratch with st := some st, sel := some sel }).send hs fun l _ =>
      .inr ⟨hf, .inr ⟨.inl rfl, rfl⟩⟩

theorem execSend_keeps {f : CanFrame} (h : Fetched (.send f) s) : Keeps (execSend f s) := by
  unfold execSend
  obtain hp | ⟨hf, ⟨hp, hrx⟩ | ⟨hp | hp, hsel⟩⟩ := h.ready
  · exact h.runs hp (keeps_next (sendBegin_inv h.on (h.settled hp)))
  · exact h.runs hp (readScratch_keeps (rxByte_isSome hrx (by decide)) fun st =>
      keeps_next (sendLoad_inv h.on (h.settled hp) hf st))
  · exact h.runs hp (readScratch_keeps hsel fun sel =>
      keeps_next (h.on.send (h.settled hp) fun l _ => .inr ⟨hf, .inr ⟨.inr rfl, hsel⟩⟩))
  · exact h.runs hp (readScratch_keeps hsel fun sel => keeps_next (h.on.finish (h.settled hp) ..))

theorem pollPush_workingOn (h : WorkingOn i s) (buf : List Byte) (img : BufferImage) :
    WorkingOn i (pollPush buf img s) := h.prepared rfl h.modeKnown

theorem pollDrain_inv (h : WorkingOn .pollReceive s) (hatt : s.attempt = 0) : Inv (pollDrain s) :=
  (h.prepared (s' := { s with rxFifo := [] }) rfl h.modeKnown).finish ⟨hatt, rfl⟩ ..

theorem WorkingOn.op_eq (h : WorkingOn i s) : s.op = commandOf i := by
  obtain ⟨c, hop, hd⟩ := h.op
  rw [hop, (commandOf_eq_some_iff i c).mpr (encode_of_decodeHost hd)]

/-- The one transaction that leaves a frame in the FIFO (R30, R166). -/
theorem pollSecond_inv (h : WorkingOn .pollReceive s) (hatt : s.attempt = 0) (hfifo : s.rxFifo.length ≤ 1)
    (st : Byte) : Inv (pollSecond st s) :=
  inv_ite
    (fun _ => h.xfer (tx := pollFrame 1) (p := .sent 2) nofun (attemptInv_of_zero hatt (.inr rfl))
      ⟨hfifo, fun _ => ⟨h.busy, rfl, h.op_eq⟩⟩ fun l hl => .inr (.inr (.inr ⟨rfl, l, rfl, hl⟩)))
    fun _ => pollDrain_inv h hatt

theorem pollFirst_inv (h : WorkingOn .pollReceive s) (hs : Settled s) (st : Byte)
    (hst : s.scratch.st.isSome = true) : Inv (pollFirst st s) := by
  refine inv_ite (fun _ => h.send hs fun l hl => .inr (.inr (.inl ⟨rfl, ⟨l, rfl, hl⟩, hst⟩))) fun _ => ?_
  obtain ⟨hatt, hfifo⟩ := hs
  exact pollSecond_inv h hatt (by simp [hfifo]) st

/-- The 13 bytes of a buffer read are an image (R99, R166). -/
theorem pollImage_keeps {rule : List Byte → BufferImage → Host.Outcome State Fault Refusal}
    (hrx : rxHas 14 s.scratch) (h : ∀ rx img, Keeps (rule rx img)) :
    Keeps (readScratch s.scratch.rx fun rx => readScratch (imageOfBytes (pollBuf rx)) (rule rx)) := by
  obtain ⟨l, hl, hlen⟩ := hrx
  rw [hl, readScratch_some]
  exact readScratch_keeps (imageOfBytes_isSome (by simp [pollBuf, hlen])) (h l)

theorem execPollReceive_keeps (h : Fetched .pollReceive s) : Keeps (execPollReceive s) := by
  unfold execPollReceive
  obtain hp | ⟨hp, hrx⟩ | ⟨hp, hrx, hst⟩ | ⟨hp, hrx⟩ := h.ready
  · have hs := h.settled hp rfl (.inl nofun)
    exact h.runs hp (keeps_next (inv_ite
      (fun _ => h.on.send hs fun l hl => .inr (.inl ⟨rfl, l, rfl, hl⟩)) fun _ => h.on.raise hs ..))
  · have hs := h.settled hp rfl (.inl nofun)
    exact h.runs hp (readScratch_keeps (rxByte_isSome hrx (by decide)) fun st =>
      keeps_next (pollFirst_inv (h.on.writeLocals { s.scratch with st := some st }) hs st rfl))
  · obtain ⟨hatt, hfifo⟩ := h.settled hp rfl (.inl (by simp))
    exact h.runs hp (pollImage_keeps hrx fun rx img => readScratch_keeps hst fun st =>
      keeps_next (pollSecond_inv (pollPush_workingOn h.on _ img) hatt (by simp [pollPush, hfifo]) st))
  · have hatt := h.inv.attempt_zero (.inr (by rw [hp]; rfl))
    exact h.runs hp (pollImage_keeps hrx fun rx img =>
      keeps_next (pollDrain_inv (pollPush_workingOn h.on _ img) hatt))

/-- LISTEN's ModeSet calls have their positions in its rule once `prior` is written (R171). -/
theorem listen_modeReady (fs : FilterSet) (c : ModeCall) (hprior : s.scratch.prior.isSome = true) :
    ModeReady s.cfg (.listen fs) c s.scratch := fun l =>
  ⟨.inr ⟨hprior, .inr (.inr (.inl ⟨c, rfl⟩))⟩, fun hl => .inr ⟨hprior, .inr (.inr (.inr ⟨c, rfl, l, rfl, hl⟩))⟩⟩

/-- LISTEN's `prior` is a mode, as `cur_mode` is known where the block is initialized (R153, R171). -/
theorem listenBegin_inv {fs : FilterSet} (h : WorkingOn (.listen fs) s) (hs : Settled s) :
    Inv (listenBegin (.listen fs) fs s) := by
  refine inv_ite (fun _ => h.raise hs ..) fun _ => inv_ite (fun _ => h.raise hs ..) fun hinit =>
    inv_ite (fun _ => h.raise hs ..) fun _ => ?_
  have hprior : (curModeKnown s.curMode).isSome = true := by
    have hknown := h.modeKnown (Bool.eq_true_of_not_eq_false hinit)
    cases hm : s.curMode with
    | known m => rfl
    | unknown => exact absurd hm hknown
  have hon := h.writeLocals { s.scratch with prior := curModeKnown s.curMode }
  exact modeStart_inv hon hs _ (listen_modeReady fs _ hprior)

/-- LISTEN's second ModeSet brings back the mode in `prior` (R171). -/
theorem listenRestore_keeps {fs : FilterSet} (h : WorkingOn (.listen fs) s) (hs : Settled s)
    (hprior : s.scratch.prior.isSome = true) :
    Keeps (readScratch s.scratch.prior fun m => .next (modeStart m .second s)) :=
  readScratch_keeps hprior fun m => keeps_next (modeStart_inv h hs m (listen_modeReady fs _ hprior))

theorem execListen_keeps {fs : FilterSet} (h : Fetched (.listen fs) s) : Keeps (execListen fs s) := by
  unfold execListen
  obtain hp | ⟨hprior, hp | ⟨hp | hp, hfull⟩ | ⟨c, hp⟩ | ⟨c, hp, hrx⟩⟩ := h.ready
  · exact h.runs hp (keeps_next (listenBegin_inv h.on (h.settled hp)))
  · have hs := h.settled hp
    refine h.runs hp ?_
    cases fs with
    | empty => exact listenRestore_keeps h.on hs hprior
    | full r => exact keeps_next (h.on.send hs fun l _ => .inr ⟨hprior, .inr (.inl ⟨.inl rfl, nofun⟩)⟩)
  · have hs := h.settled hp
    refine h.runs hp ?_
    cases fs with
    | empty => exact absurd rfl hfull
    | full r => exact keeps_next (h.on.send hs fun l _ => .inr ⟨hprior, .inr (.inl ⟨.inr rfl, nofun⟩)⟩)
  · have hs := h.settled hp
    refine h.runs hp ?_
    cases fs with
    | empty => exact absurd rfl hfull
    | full r => exact listenRestore_keeps h.on hs hprior
  · exact h.runs hp (modePoll_keeps h hp (listen_modeReady fs c hprior))
  · refine h.runs hp ?_
    cases c with
    | first =>
      exact modePolledStep_keeps h hp hrx (listen_modeReady fs _ hprior) fun hon hs =>
        keeps_next (hon.send hs fun l _ => .inr ⟨hprior, .inl rfl⟩)
    | second =>
      exact readScratch_keeps hprior fun m =>
        modePolledStep_keeps h hp hrx (listen_modeReady fs _ hprior) fun hon hs =>
          keeps_next ((hon.prepared (s' := { modeConfirmed m s with filtersLocked := true }) rfl
            hon.modeKnown).finish hs ..)

theorem execUartSend_keeps {type : Byte} {payload : List Byte} (h : Fetched (.uartSend type payload) s) :
    Keeps (execUartSend type payload s) := by
  unfold execUartSend
  obtain hp | hp := h.ready
  · have hs := h.settled hp
    exact h.runs hp (keeps_next (inv_ite (fun _ => h.on.raise hs ..) fun _ => h.on.emit hs _ (.inr rfl)))
  · exact h.runs hp (keeps_next (h.on.finish (h.settled hp) ..))

/-- One step of a host operation, from a state that meets the invariant. -/
theorem exec_keeps (h : Fetched i s) : Keeps (exec i s) := by
  have hr := h.ready
  cases i with
  | getStatus | decId | decDlc | decFrame =>
    have hp := hr.resolve_right id
    exact singleStep_keeps h hp (h.on.finish (h.settled hp) ..)
  | encId | encDlc | uartCks | uartBuild =>
    have hp := hr.resolve_right id
    have hs := h.settled hp
    exact singleStep_keeps h hp (inv_ite (fun _ => h.on.raise hs ..) fun _ => h.on.finish hs ..)
  | encFrame f =>
    have hp := hr.resolve_right id
    have hs := h.settled hp
    exact singleStep_keeps h hp (inv_ite (fun _ => h.on.raise hs ..) fun _ =>
      inv_ite (fun _ => h.on.raise hs ..) fun _ => h.on.finish hs ..)
  | uartParse bytes =>
    have hp := hr.resolve_right id
    refine singleStep_keeps h hp ?_
    split
    · exact h.on.raise (h.settled hp) ..
    · exact h.on.finish (h.settled hp) ..
  | uartSend type payload => exact execUartSend_keeps h
  | spiReset =>
    exact oneXfer_keeps h (hr.imp_right fun hp => ⟨hp, keeps_next (h.on.finish (h.settled hp) ..)⟩) fun hp =>
      (h.on.prepared (s' := forgetDevice s) rfl nofun).send (h.settled hp) fun l _ => .inr rfl
  | regWrite | bitModify | rts | loadTx =>
    exact oneXfer_keeps h (hr.imp_right fun hp => ⟨hp, keeps_next (h.on.finish (h.settled hp) ..)⟩) fun hp =>
      inv_ite (fun _ => h.on.raise (h.settled hp) ..) fun _ => h.on.send (h.settled hp) fun l _ => .inr rfl
  | regRead | readRx =>
    exact oneXfer_keeps h
      (hr.imp_right fun ⟨hp, hrx⟩ =>
        ⟨hp, readScratch_keeps (rxHas_isSome hrx) fun _ => keeps_next (h.on.finish (h.settled hp) ..)⟩)
      fun hp => inv_ite (fun _ => h.on.raise (h.settled hp) ..) fun _ =>
        h.on.send (h.settled hp) fun l hl => .inr ⟨rfl, l, rfl, hl.trans (length_append_dummies ..)⟩
  | readStatus | rxStatus =>
    exact oneXfer_keeps h
      (hr.imp_right fun ⟨hp, hrx⟩ =>
        ⟨hp, readScratch_keeps (rxByte_isSome hrx (by decide)) fun _ =>
          keeps_next (h.on.finish (h.settled hp) ..)⟩)
      fun hp => h.on.send (h.settled hp) fun l hl => .inr ⟨rfl, l, rfl, hl⟩
  | busState =>
    exact oneXfer_keeps h
      (hr.imp_right fun ⟨hp, hrx⟩ =>
        ⟨hp, readScratch_keeps (rxByte_isSome hrx (by decide)) fun _ =>
          keeps_next (h.on.finish (h.settled hp) ..)⟩)
      fun hp => inv_ite (fun _ => h.on.send (h.settled hp) fun l hl => .inr ⟨rfl, l, rfl, hl⟩) fun _ =>
        h.on.raise (h.settled hp) ..
  | init => exact execInit_keeps h
  | setMode => exact execSetMode_keeps h
  | send => exact execSend_keeps h
  | pollReceive => exact execPollReceive_keeps h
  | listen => exact execListen_keeps h
  | spiInstrReset | spiRead | spiReadRxBuffer | spiWrite | spiLoadTxBuffer | spiRts | spiReadStatus
  | spiRxStatus | spiBitModify =>
    obtain ⟨c, -, hd⟩ := h.on.op
    cases isHostOp_of_decodeHost hd

/-! ### Every step -/

theorem accept_inv (h : Inv s) (hi : s.seqState = .idle) {c : Command} (hc : s.env.hostPort = some c) :
    Inv (accept c (takeOffer s)) where
  faultCode := ⟨fun _ => h.faultCode.1 (by simp [hi]), nofun⟩
  modeKnown := h.modeKnown
  attempt := attemptInv_of_zero (h.attempt_zero (.inl (by simp [hi]))) (.inr rfl)
  step := ⟨fun hn => absurd rfl hn, fun _ => iff_of_true rfl rfl⟩
  fifo := fifoInv_of_nil (h.rxFifo_nil fun ⟨hb, _⟩ => nomatch hi.symm.trans hb)
  urx := h.urx
  position := fun _ => by
    show match decodeHost c with
      | .ok i => Ready s.cfg i Scratch.unwritten
      | .error _ => Scratch.unwritten.point = .start
    cases decodeHost c with
    | ok i => exact .inl rfl
    | error e => rfl
  offers := ⟨nofun, fun d hd => by
    cases hd
    exact h.hostPort c hc⟩
  memory := h.memory

theorem completeFaulted_inv (h : Inv s) (o : Operation) : Inv (completeFaulted o (takeOffer s)) :=
  h.of_sameSeq rfl h.urx nofun h.memory

/-- An operation decodes, or has an illegal opcode (R90, R91). -/
theorem decodeHost_of_isOperation {c : Command} (h : isOperation c = true) :
    (∃ i, decodeHost c = .ok i) ∨ ∃ b, decodeHost c = .error (.illegalOpcode b) := by
  obtain ho | hd := (isOperation_iff c).mp h
  · exact .inr ⟨c.opcode, by simp [decodeHost, ho]⟩
  · exact .inl hd

theorem busyStep_keeps (h : Inv s) (hb : s.seqState = .busy) : Keeps (busyStep s) := by
  have hpos := h.position hb
  obtain ⟨-, hisop⟩ := h.offers
  cases hop : s.op with
  | none => rw [hop] at hpos; exact hpos.elim
  | some c =>
    rw [hop] at hpos
    dsimp only at hpos
    obtain ⟨i, hd⟩ | ⟨b, hd⟩ := decodeHost_of_isOperation (hisop c hop)
    · rw [hd] at hpos
      simp only [busyStep, hop, hd]
      exact exec_keeps ⟨h, ⟨h.working hb, c, hop, hd⟩, hpos⟩
    · rw [hd] at hpos
      have hp : s.scratch.point = .start := hpos
      simp only [busyStep, hop, hd]
      have hatt := h.attempt_zero (.inr (by rw [hp]; rfl))
      have hfifo := h.rxFifo_nil fun ⟨_, hsent, _⟩ => nomatch hp.symm.trans hsent
      exact keeps_next ((h.working hb).raise ⟨hatt, hfifo⟩ ..)

theorem faultStep_keeps (h : Inv s) (hf : s.seqState = .fault) {c : Command} (hc : s.env.hostPort = some c) :
    Keeps (faultStep c (takeOffer s)) := by
  obtain ⟨i, hd⟩ | ⟨b, hd⟩ := decodeHost_of_isOperation (h.hostPort c hc)
  · simp only [faultStep, hd]
    rw [exec_fault (s := takeOffer s) (isHostOp_of_decodeHost hd) hf]
    exact keeps_next (completeFaulted_inv h _)
  · simp only [faultStep, hd]
    exact keeps_next (completeFaulted_inv h _)

theorem seqStep_keeps (h : Inv s) : Keeps (seqStep s) := by
  unfold seqStep
  cases hs : s.seqState with
  | busy => exact busyStep_keeps h hs
  | idle =>
    cases hc : s.env.hostPort with
    | none => exact keeps_next h
    | some c => exact keeps_next (accept_inv h hs hc)
  | fault =>
    cases hc : s.env.hostPort with
    | none => exact keeps_next h
    | some c => exact faultStep_keeps h hs hc

theorem turnStep_keeps (h : Inv s) (u : Turn) : Keeps (turnStep u s) := by
  cases u with
  | seq => exact seqStep_keeps h
  | host c => exact keeps_next (hostStep_inv c h)
  | peer b => exact keeps_next (h.of_sameSeq rfl h.urx h.hostPort h.memory)
  | urx => exact keeps_next (urxStep_inv h)
  | blockReset => exact keeps_next (blockReset_inv h)
  | deviceMode k => exact keeps_next (modeTurn_inv k h)
  | busFrame named img other => exact keeps_next (deviceTurn_inv (Device.receive_canonical named img other) h)
  | txDone n named img other => exact keeps_next (deviceTurn_inv (Device.txDone_canonical n named img other) h)

theorem linkStep_keeps (h : Inv s) (frame : List Byte) : Keeps (linkStep frame s) := by
  obtain ⟨tx, heq⟩ := linkStep_transacts frame s
  rw [heq]
  exact keeps_next (transact_inv tx (h.of_sameSeq rfl h.urx h.hostPort h.memory))

/-- From a state that meets the invariant every step answers a state that meets it, whoever moves. -/
theorem step_keeps (h : Inv s) : Keeps (step s) := by
  obtain ⟨frame, -, hs⟩ | ⟨-, hs⟩ := step_cases s
  · rw [hs]
    exact linkStep_keeps h frame
  · rw [hs]
    exact turnStep_keeps (drawTurn_inv h) _

end

/-- Settles O3: the state a step answers is the one of `step_keeps`. -/
theorem everyStepKeepsTheInvariant : Obligations.EveryStepKeepsTheInvariant := by
  intro s t h ht
  obtain ⟨t', ht', hinv⟩ := step_keeps h
  cases ht'.symm.trans ht
  exact hinv

/-- Settles O4, by `step_keeps`. -/
theorem noStepReadsAnUnwrittenLocal : Obligations.NoStepReadsAnUnwrittenLocal := by
  intro s h
  obtain ⟨t, ht, -⟩ := step_keeps h
  exact ⟨t, ht⟩

end Sys2Proof.Machine
end

section
/-! The device's register space as memory: canonical memories that read alike are equal (O57); what a store, and
setting or clearing a bit, leaves in each register; and the reading instructions on the reference device (O49). -/

namespace Sys2Proof.Machine

/-! ### Canonical memories -/

/-- A list of cells with rising addresses lists a byte at an address exactly where looking it up finds it. -/
theorem Memory.mem_iff_lookup {m : List Host.Cell} (h : m.Pairwise fun c d => c.1 < d.1) (a : Nat) (b : Byte) :
    (a, b) ∈ m ↔ Memory.lookup m a = some b := by
  induction m with
  | nil => simp [Memory.lookup]
  | cons c m ih =>
    obtain ⟨k, v⟩ := c
    obtain ⟨hk, hm⟩ := List.pairwise_cons.1 h
    unfold Memory.lookup
    split
    · rename_i hka
      subst hka
      have hnot : (k, b) ∉ m := fun hmem => Nat.lt_irrefl k (hk _ hmem)
      simp [hnot, eq_comm]
    · rename_i hka
      have hne : (a, b) ≠ (k, v) := fun h => hka (congrArg Prod.fst h).symm
      simp [hne, ih hm]

/-- A canonical memory lists exactly the bytes that differ from what an unlisted address reads as. -/
theorem Memory.lookup_of_wf {m : List Host.Cell} (h : Memory.wf m = true) (a : Nat) :
    Memory.lookup m a = if Memory.read m a = resetContents a then none else Memory.read m a := by
  obtain ⟨hsorted, hdiffer⟩ := (Memory.wf_iff m).1 h
  unfold Memory.read
  cases hl : Memory.lookup m a with
  | none => simp
  | some b =>
    have hb := hdiffer _ ((Memory.mem_iff_lookup hsorted a b).2 hl)
    simp [Ne.symm hb]

/-- Settles O57: canonical memories that read alike list the same cells (`Memory.lookup_of_wf`), and rising addresses
leave one order for them. -/
theorem canonicalMemoriesAreEqual : Obligations.CanonicalMemoriesAreEqual := by
  intro m n hm hn hread
  obtain ⟨hsm, -⟩ := (Memory.wf_iff m).1 hm
  obtain ⟨hsn, -⟩ := (Memory.wf_iff n).1 hn
  have hmem : ∀ c, c ∈ m ↔ c ∈ n := fun ⟨a, b⟩ => by
    rw [Memory.mem_iff_lookup hsm, Memory.mem_iff_lookup hsn, Memory.lookup_of_wf hm, Memory.lookup_of_wf hn,
      hread a]
  have hnodup {l : List Host.Cell} (h : l.Pairwise fun c d => c.1 < d.1) : l.Nodup :=
    h.imp fun hlt heq => Nat.ne_of_lt hlt (congrArg Prod.fst heq)
  have hperm : m.Perm n := (List.perm_ext_iff_of_nodup (hnodup hsm) (hnodup hsn)).2 hmem
  exact hperm.eq_of_pairwise (fun _ _ _ _ h h' => absurd h' (Nat.lt_asymm h)) hsm hsn

/-! ### Which register stands where -/

section
variable {a a' : Nat} {k : RegKind}

theorem addr_of_regKind (h : regKind a = some k) : a ≤ 0x7F := by
  unfold regKind at h
  split at h
  · cases h
  · omega

theorem regKind_isSome (ha : a ≤ 0x7F) : (regKind a).isSome = true := by
  have all : ∀ x < 0x80, (regKind x).isSome = true := by decide +kernel
  exact all a (by omega)

theorem regKind_canctrl_iff (ha : a ≤ 0x7F) : regKind a = some .canctrl ↔ canonAddr a = 0x0F := by
  have all : ∀ x < 0x80, regKind x = some .canctrl ↔ canonAddr x = 0x0F := by decide +kernel
  exact all a (by omega)

theorem regKind_canstat_iff (ha : a ≤ 0x7F) : regKind a = some .canstat ↔ canonAddr a = 0x0E := by
  have all : ∀ x < 0x80, regKind x = some .canstat ↔ canonAddr x = 0x0E := by decide +kernel
  exact all a (by omega)

theorem implBits_of_regKind (h : regKind a = some k) : implBits a = implMask k := by rw [implBits, h]

theorem implBits_canstat : implBits 0x0E = 0xEE := by decide
theorem implBits_canintf : implBits 0x2C = 0xFF := by decide

end

/-! ### Stores and single bits -/

section
variable {d d' : Device} {a a' : Nat}

theorem Device.contents_congr (d : Device) (h : canonAddr a' = canonAddr a) : d.contents a' = d.contents a := by
  simp only [Device.contents, h]

theorem Device.contents_store_same (d : Device) (b : Byte) (h : canonAddr a' = canonAddr a) :
    (d.store a b).contents a' = b := by
  simp only [Device.contents, Device.store, h, Memory.read_write_same]

theorem Device.contents_store_other (d : Device) (b : Byte) (h : canonAddr a' ≠ canonAddr a) :
    (d.store a b).contents a' = d.contents a' := by
  simp only [Device.contents, Device.store, Memory.read_write_other _ _ h]

theorem Device.read_of_contents (h : d'.contents a = d.contents a) : d'.read a = d.read a := by
  rw [Device.read, h, Device.read]

theorem Device.opmod_of_read (h : d'.read 0x0E = d.read 0x0E) : d'.opmod = d.opmod := by
  rw [Device.opmod, addrCanstat_eq, h, Device.opmod, addrCanstat_eq]

theorem Device.read_store_same (d : Device) (a : Nat) (b : Byte) : (d.store a b).read a = b &&& implBits a := by
  rw [Device.read, d.contents_store_same b rfl]

theorem Device.read_store_other (d : Device) (b : Byte) (h : canonAddr a' ≠ canonAddr a) :
    (d.store a b).read a' = d.read a' := Device.read_of_contents (d.contents_store_other b h)

theorem bitMask_getLsbD (i j : Nat) : (bitMask i).getLsbD j = (decide (j < 8) && decide (i = j)) := by
  simp only [bitMask, BitVec.getLsbD_twoPow]
  by_cases h : i = j <;> simp [h]

theorem bitMask_and {i : Nat} {x : Byte} (h : x.getLsbD i = true) : bitMask i &&& x = bitMask i := by
  apply BitVec.eq_of_getLsbD_eq
  intro j hj
  by_cases hij : i = j
  · subst hij
    simp [bitMask_getLsbD, h, hj]
  · simp [bitMask_getLsbD, hij]

/-- Setting an implemented bit of a register. -/
theorem Device.read_setBit_same (d : Device) {i : Nat} (h : (implBits a).getLsbD i = true) :
    (d.setBit a i).read a = d.read a ||| bitMask i := by
  rw [Device.setBit, Device.read_store_same, Device.read, BitVec.and_or_distrib_right, bitMask_and h]

theorem Device.read_setBit_other (d : Device) (i : Nat) (h : canonAddr a' ≠ canonAddr a) :
    (d.setBit a i).read a' = d.read a' := d.read_store_other _ h

theorem Device.read_clearBit_same (d : Device) (a i : Nat) :
    (d.clearBit a i).read a = d.read a &&& ~~~ bitMask i := by
  rw [Device.clearBit, Device.read_store_same, Device.read, BitVec.and_assoc, BitVec.and_comm (~~~ _),
    ← BitVec.and_assoc]

theorem Device.read_clearBit_other (d : Device) (i : Nat) (h : canonAddr a' ≠ canonAddr a) :
    (d.clearBit a i).read a' = d.read a' := d.read_store_other _ h

theorem Device.bit_setBit_same (d : Device) {i j : Nat} (h : (implBits a).getLsbD i = true) (hj : j < 8) :
    (d.setBit a i).bit a j = (d.bit a j || decide (i = j)) := by
  rw [Device.bit, d.read_setBit_same h, BitVec.getLsbD_or, bitMask_getLsbD, Device.bit]
  simp [hj]

theorem Device.bit_clearBit_same (d : Device) (a i : Nat) {j : Nat} (hj : j < 8) :
    (d.clearBit a i).bit a j = (d.bit a j && !decide (i = j)) := by
  rw [Device.bit, d.read_clearBit_same a i, BitVec.getLsbD_and, BitVec.getLsbD_not, bitMask_getLsbD, Device.bit]
  simp [hj]

end

/-! ### What the reference device answers to a frame of R92 -/

section
variable (d : Device) (raw : List Byte)

@[simp] theorem length_dummies (n : Nat) : (dummies n).length = n := List.length_replicate ..

theorem allDummy_dummies (n : Nat) : allDummy (dummies n) = true := by simp [allDummy, dummies]

theorem SpiOp.ofByte_readRxByte (n m : Bool) : SpiOp.ofByte (readRxByte n m) = some .readRx := by
  revert n m; decide

theorem readRxByte_fields (n m : Bool) :
    (readRxByte n m).getLsbD Config.dev.readRxN = n ∧ (readRxByte n m).getLsbD Config.dev.readRxM = m := by
  revert n m; decide

theorem decodeSpi_frameOf_read (a : Byte) (n : Nat) :
    decodeSpi (frameOf (.spiRead a n)) = .ok (.spiRead a n) := by
  have ho : SpiOp.ofByte (SpiOp.byte .read) = some .read := by decide
  simp only [frameOf, encode, List.cons_append, List.nil_append, decodeSpi, ho, spiInstrOf, allDummy_dummies,
    if_true, length_dummies]
  rfl

theorem decodeSpi_frameOf_readRx (n m : Bool) (k : Nat) :
    decodeSpi (frameOf (.spiReadRxBuffer n m k)) = .ok (.spiReadRxBuffer n m k) := by
  obtain ⟨hn, hm⟩ := readRxByte_fields n m
  simp only [frameOf, encode, List.cons_append, List.nil_append, decodeSpi, SpiOp.ofByte_readRxByte, spiInstrOf,
    allDummy_dummies, if_true, length_dummies, hn, hm]
  rfl

theorem Device.answer_read (a : Byte) (n : Nat) :
    d.answer (frameOf (.spiRead a n)) raw = (raw.take 2 ++ d.answerBurst a.toNat (raw.drop 2), d) := by
  have hview : deviceView (frameOf (.spiRead a n)) = frameOf (.spiRead a n) := by
    show SpiOp.byte .read :: a :: dummies (dummies n).length = _
    rw [length_dummies]
    rfl
  simp only [Device.answer, hview, decodeSpi_frameOf_read]

theorem Device.answer_readRx (n m : Bool) (k : Nat) :
    d.answer (frameOf (.spiReadRxBuffer n m k)) raw =
      (raw.take 1 ++ d.answerBurst (readRxStart n m) (raw.drop 1),
        d.clearBit addrCanintf Config.dev.rxif[rxBufOf n]) := by
  have hview : deviceView (frameOf (.spiReadRxBuffer n m k)) = frameOf (.spiReadRxBuffer n m k) := by
    simp [frameOf, encode, deviceView, SpiOp.ofByte_readRxByte]
  simp only [Device.answer, hview, decodeSpi_frameOf_readRx]

theorem Device.answer_readStatus :
    d.answer (frameOf .spiReadStatus) raw = (raw.take 1 ++ List.replicate (raw.length - 1) d.statusByte, d) := rfl

theorem Device.answer_rxStatus :
    d.answer (frameOf .spiRxStatus) raw = (raw.take 1 ++ replaceFirst d.rxStatusByte (raw.drop 1), d) := rfl

theorem Device.answer_write (a : Byte) (data : List Byte) :
    d.answer (frameOf (.spiWrite a data)) raw = (raw, d.writeFrame a.toNat data) := rfl

theorem Device.answer_bitModify (a mask data : Byte) :
    d.answer (frameOf (.spiBitModify a mask data)) raw = (raw, d.bitModify a.toNat mask data) := rfl

end

/-! ### The two status bytes, bit by bit -/

section
variable (d : Device)

theorem bitIf_getLsbD (b : Bool) (i j : Nat) :
    (bitIf b i).getLsbD j = (decide (j < 8) && decide (i = j) && b) := by
  by_cases h : i = j
  · subst h
    simp [bitIf, fieldAt]
  · simp only [bitIf, fieldAt, BitVec.getLsbD_shiftLeft, BitVec.getLsbD_setWidth, BitVec.getLsbD_ofBool, h,
      decide_false, Bool.and_false, Bool.false_and]
    obtain h | h := Nat.lt_or_gt_of_ne h
    · simp [show j - i ≠ 0 by omega]
    · simp [h]

/-- R72. -/
theorem Device.statusByte_bits :
    d.statusByte.getLsbD 0 = d.bit 0x2C 0 ∧ d.statusByte.getLsbD 1 = d.bit 0x2C 1 ∧
      d.statusByte.getLsbD 2 = d.bit 0x30 3 ∧ d.statusByte.getLsbD 3 = d.bit 0x2C 2 ∧
      d.statusByte.getLsbD 4 = d.bit 0x40 3 ∧ d.statusByte.getLsbD 5 = d.bit 0x2C 3 ∧
      d.statusByte.getLsbD 6 = d.bit 0x50 3 ∧ d.statusByte.getLsbD 7 = d.bit 0x2C 4 := by
  simp only [Device.statusByte, BitVec.getLsbD_or, bitIf_getLsbD]
  simp [Device.full, txbBase]

theorem Device.full_eq (n : Fin Config.nRxBuf) : d.full n = d.bit 0x2C n.val := by
  match n with
  | 0 => rfl
  | 1 => rfl

theorem Device.filterHit_zero : d.filterHit 0 = if d.bit 0x60 0 then 0b001#3 else 0b000#3 := by
  have all : ∀ b : Byte, (b.extractLsb' 0 1).setWidth 3 = if b.getLsbD 0 then 0b001#3 else 0b000#3 := by decide
  exact all (d.read 0x60)

/-- Bits 7:6 of the RX STATUS byte (R126). -/
theorem Device.rxStatusByte_flags (drawn : Byte) :
    (d.rxStatusByte drawn).getLsbD 6 = d.bit 0x2C 0 ∧ (d.rxStatusByte drawn).getLsbD 7 = d.bit 0x2C 1 := by
  rw [d.rxStatusByte_eq]
  simp only [BitVec.getLsbD_append]
  simp [Device.full_eq]

/-- Bits 4:0 of the RX STATUS byte where one message waits, in receive buffer n (R126). -/
theorem Device.rxStatusByte_message (drawn : Byte) {n : Fin Config.nRxBuf} (h : d.full 0 = !d.full 1)
    (hn : n = if d.full 0 then 0 else 1) :
    (d.rxStatusByte drawn).getLsbD 4 = d.rxExtended n ∧ (d.rxStatusByte drawn).getLsbD 3 = d.rxRemote n ∧
      (d.rxStatusByte drawn).extractLsb' 0 3 = d.rxFilterField n := by
  have hne : ¬ d.full 0 = d.full 1 := by simp [h]
  rw [d.rxStatusByte_eq, if_neg hne, ← hn]
  refine ⟨?_, ?_, BitVec.eq_of_getLsbD_eq fun i hi => ?_⟩
  · simp only [BitVec.getLsbD_append]
    simp
  · simp only [BitVec.getLsbD_append]
    simp
  · simp only [BitVec.getLsbD_extractLsb', BitVec.getLsbD_append]
    simp [hi, show i < 5 by omega]

end

/-! ### The reading instructions on the reference device -/

section
variable {i : Instr} {s t : State}

/-- An SPI instruction on the reference device: `raw` are the bytes drawn for what the device does not determine. -/
theorem exec_reference (hi : isHostOp i = false) (hl : s.dev.law = .reference) (h : exec i s = .next t) :
    ∃ raw : List Byte, raw.length = (frameOf i).length ∧ t.dev = (s.dev.answer (frameOf i) raw).2 ∧
      t.history = s.history ++ [.spi (frameOf i) (s.dev.answer (frameOf i) raw).1] := by
  rw [exec_spi hi] at h
  cases h
  refine ⟨(drawBytes (frameOf i).length s.env).1, drawBytes_length .., ?_, ?_⟩
  · simp [deviceXfer, hl]
  · simp [deviceXfer, hl]

theorem spiRead_reference (hl : s.dev.law = .reference) {a : Byte} {n : Nat} (hn : a.toNat + n ≤ 0x80)
    (h : exec (.spiRead a n) s = .next t) :
    t.dev = s.dev ∧ ∃ tx x y, t.history = s.history ++ [.spi tx ([x, y] ++ s.dev.readBurst a.toNat n)] := by
  obtain ⟨raw, hraw, hdev, hhist⟩ := exec_reference rfl hl h
  rw [Device.answer_read] at hdev hhist
  match raw, hraw with
  | x :: y :: raw, hraw =>
    have hlen : raw.length = n := by simpa [frameOf, encode] using hraw
    refine ⟨hdev, frameOf (.spiRead a n), x, y, ?_⟩
    rw [hhist, List.drop_succ_cons, List.drop_succ_cons, List.drop_zero,
      s.dev.answerBurst_eq_readBurst _ _ (by omega), hlen]
    rfl

theorem spiReadStatus_reference (hl : s.dev.law = .reference) (h : exec .spiReadStatus s = .next t) :
    t.dev = s.dev ∧ ∃ tx x, t.history = s.history ++ [.spi tx [x, s.dev.statusByte]] := by
  obtain ⟨raw, hraw, hdev, hhist⟩ := exec_reference rfl hl h
  rw [Device.answer_readStatus] at hdev hhist
  match raw, hraw with
  | [x, _], _ => exact ⟨hdev, _, x, hhist⟩

theorem spiRxStatus_reference (hl : s.dev.law = .reference) (h : exec .spiRxStatus s = .next t) :
    t.dev = s.dev ∧ ∃ tx x drawn, t.history = s.history ++ [.spi tx [x, s.dev.rxStatusByte drawn]] := by
  obtain ⟨raw, hraw, hdev, hhist⟩ := exec_reference rfl hl h
  rw [Device.answer_rxStatus] at hdev hhist
  match raw, hraw with
  | [x, drawn], _ => exact ⟨hdev, _, x, drawn, hhist⟩

theorem spiReadRxBuffer_reference (hl : s.dev.law = .reference) {n m : Bool} {k : Nat}
    (hk : readRxStart n m + k ≤ 0x80) (h : exec (.spiReadRxBuffer n m k) s = .next t) :
    t.dev = s.dev.clearBit 0x2C (if n then 1 else 0) ∧
      ∃ tx x, t.history = s.history ++ [.spi tx ([x] ++ s.dev.readBurst (readRxStart n m) k)] := by
  obtain ⟨raw, hraw, hdev, hhist⟩ := exec_reference rfl hl h
  rw [Device.answer_readRx] at hdev hhist
  match raw, hraw with
  | x :: raw, hraw =>
    have hlen : raw.length = k := by simpa [frameOf, encode] using hraw
    have hflag : Config.dev.rxif[rxBufOf n] = if n then 1 else 0 := by cases n <;> rfl
    refine ⟨hflag ▸ hdev, frameOf (.spiReadRxBuffer n m k), x, ?_⟩
    rw [hhist, List.drop_succ_cons, List.drop_zero, s.dev.answerBurst_eq_readBurst _ _ (by omega), hlen]
    rfl

end

/-- Settles O49: what each reading instruction brings in and leaves (`spiRead_reference` and its three companions),
and the two status bytes bit by bit. -/
theorem referenceReads : Obligations.ReferenceReads := by
  intro s t hl
  refine ⟨fun a n hn h => spiRead_reference hl hn h, fun h => ?status, fun h => ?rxStatus,
    fun n m k hk h => ?buffer⟩
  case status =>
    obtain ⟨hdev, tx, x, hhist⟩ := spiReadStatus_reference hl h
    exact ⟨hdev, tx, x, _, hhist, s.dev.statusByte_bits⟩
  case rxStatus =>
    obtain ⟨hdev, tx, x, drawn, hhist⟩ := spiRxStatus_reference hl h
    obtain ⟨h6, h7⟩ := s.dev.rxStatusByte_flags drawn
    refine ⟨hdev, tx, x, _, hhist, h6, h7, fun h0 h1 => ?_, fun h0 h1 => ?_⟩
    · obtain ⟨hext, hrtr, hfilter⟩ := s.dev.rxStatusByte_message drawn (n := 0)
        (by simp [Device.full_eq, h0, h1]) (by simp [Device.full_eq, h0])
      rw [s.dev.rxFilterField_eq, if_pos rfl, s.dev.filterHit_zero] at hfilter
      exact ⟨⟨hext, hrtr⟩, hfilter⟩
    · obtain ⟨hext, hrtr, hfilter⟩ := s.dev.rxStatusByte_message drawn (n := 1)
        (by simp [Device.full_eq, h0, h1]) (by simp [Device.full_eq, h0])
      rw [s.dev.rxFilterField_eq, if_neg (by decide)] at hfilter
      exact ⟨⟨hext, hrtr⟩, hfilter⟩
  case buffer =>
    rw [← readRxStart_eq] at hk ⊢
    obtain ⟨hdev, hhist⟩ := spiReadRxBuffer_reference hl hk h
    rw [hdev]
    refine ⟨hhist, ?_, fun j hj hne => ?_, rfl, fun a ha => Device.read_clearBit_other _ _ ha⟩
    · rw [Device.bit_clearBit_same _ _ _ (by split <;> omega)]
      simp
    · rw [Device.bit_clearBit_same _ _ _ hj]
      simp [hne.symm]

end Sys2Proof.Machine
end

section
/-! Writes on the reference device: what a byte leaves of each kind of register, BIT MODIFY (O52), WRITE with a burst
of any length (O50), and the mode change that a write of CANCTRL requests (O54). -/

namespace Sys2Proof.Machine

/-! ### Merging bits of two bytes -/

theorem Byte.and_ones (x : Byte) : x &&& 255#8 = x := BitVec.and_allOnes
theorem Byte.or_ones (x : Byte) : x ||| 255#8 = 255#8 := BitVec.or_allOnes

theorem Byte.and_or_self (x y : Byte) : x &&& (x ||| y) = x := by
  apply BitVec.eq_of_getLsbD_eq
  intro j _
  simp only [BitVec.getLsbD_and, BitVec.getLsbD_or]
  cases x.getLsbD j <;> rfl

@[simp] theorem mergeBits_none (old new : Byte) : mergeBits old new 0#8 = old := by
  simp [mergeBits, Byte.and_ones]

@[simp] theorem mergeBits_all (old new : Byte) : mergeBits old new 255#8 = new := by
  simp [mergeBits, Byte.and_ones]

theorem mergeBits_getLsbD (old new mask : Byte) {j : Nat} (hj : j < 8) :
    (mergeBits old new mask).getLsbD j = if mask.getLsbD j then new.getLsbD j else old.getLsbD j := by
  simp only [mergeBits, BitVec.getLsbD_and, BitVec.getLsbD_or, BitVec.getLsbD_not, hj, decide_true, Bool.true_and]
  cases mask.getLsbD j <;> simp

theorem mergeBits_self (old mask : Byte) : mergeBits old old mask = old := by
  apply BitVec.eq_of_getLsbD_eq
  intro j hj
  rw [mergeBits_getLsbD _ _ _ hj, ite_self]

theorem mergeBits_and (old new mask bits : Byte) :
    mergeBits old new mask &&& bits = mergeBits (old &&& bits) (new &&& bits) mask := by
  simp only [mergeBits, BitVec.and_or_distrib_right, BitVec.and_assoc, BitVec.and_comm bits]

/-- The bits of `fields` taken from a byte that has the bits of `mask` from `new` and the others from `old`. -/
theorem mergeBits_fields (old new mask : Byte) {fields bits : Byte} (h : fields &&& bits = fields) :
    mergeBits old (mergeBits old new mask) fields &&& bits =
      (old &&& bits &&& ~~~ (mask &&& fields)) ||| (new &&& mask &&& fields) := by
  apply BitVec.eq_of_getLsbD_eq
  intro j hj
  have hsub := congrArg (BitVec.getLsbD · j) h
  simp only [mergeBits, BitVec.getLsbD_and, BitVec.getLsbD_or, BitVec.getLsbD_not, hj, decide_true,
    Bool.true_and] at hsub ⊢
  revert hsub
  generalize old.getLsbD j = o, new.getLsbD j = n, mask.getLsbD j = m, fields.getLsbD j = f, bits.getLsbD j = b
  revert o n m f b
  decide

/-- Bits that writing 0 clears, written by BIT MODIFY: the mask protects them as a 1 does. -/
theorem mergeBits_cleared (old new mask keep : Byte) :
    old &&& (mergeBits old new mask ||| keep) = old &&& (new ||| ~~~ mask ||| keep) := by
  apply BitVec.eq_of_getLsbD_eq
  intro j hj
  simp only [mergeBits, BitVec.getLsbD_and, BitVec.getLsbD_or, BitVec.getLsbD_not, hj, decide_true, Bool.true_and]
  generalize old.getLsbD j = o, new.getLsbD j = n, mask.getLsbD j = m, keep.getLsbD j = f
  revert o n m f
  decide

/-! ### What holds of each register kind of a list -/

theorem eq_of_mem_kinds {l : List RegKind} {p : RegKind → Bool} {b : Bool} {k : RegKind} (hk : k ∈ l)
    (h : l.all (fun k => p k == b) = true) : p k = b := eq_of_beq (List.all_eq_true.1 h k hk)

theorem writeMask_and_implMask {k : RegKind} (hk : k ∈ [.txbCtrl, .rxb0Ctrl, .rxb1Ctrl, .txrtsctrl]) :
    writeMask k &&& implMask k = writeMask k := by
  revert k
  decide

/-! ### What a register holds after a byte was written (R66's accesses) -/

section
variable (d : Device) {k : RegKind} (old new : Byte)

theorem Device.written_rw
    (hk : k ∈ [.canctrl, .bfpctrl, .cnf1, .cnf2, .cnf3, .caninte, .canintf, .txbSidl, .txbDlc, .txbByte]) :
    d.written k old new = new := by
  simp only [List.mem_cons, List.not_mem_nil, or_false] at hk
  obtain rfl | rfl | rfl | rfl | rfl | rfl | rfl | rfl | rfl | rfl := hk <;> simp [Device.written]

theorem Device.written_readOnly (hk : k ∈ [.canstat, .tecCtr, .recCtr, .rxbSidl, .rxbDlc, .rxbByte]) :
    d.written k old new = old := by
  simp only [List.mem_cons, List.not_mem_nil, or_false] at hk
  obtain rfl | rfl | rfl | rfl | rfl | rfl := hk <;> simp [Device.written, Byte.or_ones, Byte.and_ones]

theorem Device.written_eflg : d.written .eflg old new = old &&& (new ||| 0x3F) := by simp [Device.written]

theorem Device.written_fields (hk : k ∈ [.txbCtrl, .rxb0Ctrl, .rxb1Ctrl, .txrtsctrl]) :
    d.written k old new = mergeBits old new (writeMask k) := by
  simp only [List.mem_cons, List.not_mem_nil, or_false] at hk
  obtain rfl | rfl | rfl | rfl := hk <;> simp [Device.written, Byte.or_ones, Byte.and_ones]

theorem Device.written_config (hk : k ∈ [.filtSidl, .filtByte, .maskSidl, .maskByte]) :
    d.written k old new = if d.opmod = 0b100#3 then new else old := by
  simp only [List.mem_cons, List.not_mem_nil, or_false] at hk
  obtain rfl | rfl | rfl | rfl := hk <;> simp [Device.written, Byte.or_ones, Byte.and_ones]

/-- Writing a register's contents back changes nothing. -/
theorem Device.written_self (k : RegKind) : d.written k old old = old := by
  rw [Device.written, Byte.and_or_self, mergeBits_self, ite_self]

theorem Device.written_of_opmod {d d' : Device} (h : d'.opmod = d.opmod) (k : RegKind) :
    d'.written k old new = d.written k old new := by
  rw [Device.written, h, Device.written]

end

/-! ### One byte reaches a register -/

section
variable (d : Device) {a a' : Nat} {k : RegKind} (mask b : Byte)

theorem Device.read_of_regKind (hk : regKind a = some k) : d.read a = d.contents a &&& implMask k := by
  rw [Device.read, implBits_of_regKind hk]

theorem Device.writeMasked_eq (hk : regKind a = some k) :
    d.writeMasked a mask b =
      { d.store a (d.written k (d.contents a) b) with
        modeReqs :=
          d.modeReqs ++ if k = .canctrl ∧ mask &&& 0xE0 ≠ 0x00 then [b.extractLsb' 5 3] else [] } := by
  unfold Device.writeMasked
  rw [hk]
  dsimp only
  rw [Config.dev_reqop, fieldMask_mode]
  split
  · rfl
  · rw [List.append_nil]
    rfl

theorem Device.writeMasked_modeReqs (hk : regKind a = some k) :
    (d.writeMasked a mask b).modeReqs =
      d.modeReqs ++ if k = .canctrl ∧ mask &&& 0xE0 ≠ 0x00 then [b.extractLsb' 5 3] else [] := by
  rw [d.writeMasked_eq mask b hk]

theorem Device.writeMasked_contents_same (hk : regKind a = some k) (h : canonAddr a' = canonAddr a) :
    (d.writeMasked a mask b).contents a' = d.written k (d.contents a) b := by
  rw [d.writeMasked_eq mask b hk]
  exact d.contents_store_same _ h

theorem Device.writeMasked_contents_other (h : canonAddr a' ≠ canonAddr a) :
    (d.writeMasked a mask b).contents a' = d.contents a' := by
  cases hk : regKind a with
  | none => rw [Device.writeMasked, hk]
  | some k =>
    rw [d.writeMasked_eq mask b hk]
    exact d.contents_store_other _ h

theorem Device.writeMasked_read_same (hk : regKind a = some k) :
    (d.writeMasked a mask b).read a = d.written k (d.contents a) b &&& implMask k := by
  rw [Device.read_of_regKind _ hk, d.writeMasked_contents_same mask b hk rfl]

/-- No write moves CANSTAT (R71). -/
theorem Device.writeMasked_canstat (h : canonAddr a' = 0x0E) :
    (d.writeMasked a mask b).contents a' = d.contents a' := by
  by_cases ha : canonAddr a' = canonAddr a
  · cases hk : regKind a with
    | none => rw [Device.writeMasked, hk]
    | some k =>
      have hstat := (regKind_canstat_iff (addr_of_regKind hk)).2 (ha ▸ h)
      cases hk.symm.trans hstat
      rw [d.writeMasked_contents_same mask b hstat ha, d.written_readOnly _ _ (by simp), d.contents_congr ha]
  · exact d.writeMasked_contents_other mask b ha

theorem Device.writeMasked_opmod (a : Nat) : (d.writeMasked a mask b).opmod = d.opmod :=
  Device.opmod_of_read (Device.read_of_contents (d.writeMasked_canstat mask b rfl))

end

/-! ### BIT MODIFY -/

section
variable (d : Device) {a : Nat} {k : RegKind} (mask data : Byte)

/-- A register that supports BIT MODIFY (R63). -/
theorem Device.bitModify_part (hk : regKind a = some k) (hm : bitModifiable k = true) :
    d.bitModify a mask data = d.writeMasked a mask (mergeBits (d.contents a) data mask) := by
  rw [Device.bitModify, hk]
  dsimp only
  rw [if_pos hm]

/-- One that does not takes the whole byte (R63). -/
theorem Device.bitModify_whole (hk : regKind a = some k) (hm : bitModifiable k = false) :
    d.bitModify a mask data = d.writeMasked a 0xFF data := by
  rw [Device.bitModify, hk]
  dsimp only
  rw [hm, if_neg Bool.false_ne_true]
  exact congrArg _ (mergeBits_all _ _)

/-- Either way, BIT MODIFY writes its register and no other. -/
theorem Device.bitModify_eq_writeMasked (hk : regKind a = some k) :
    ∃ m b, d.bitModify a mask data = d.writeMasked a m b := by
  cases hm : bitModifiable k with
  | true => exact ⟨_, _, d.bitModify_part mask data hk hm⟩
  | false => exact ⟨_, _, d.bitModify_whole mask data hk hm⟩

theorem Device.bitModify_modeReqs (hk : regKind a = some k) :
    (d.bitModify a mask data).modeReqs =
      d.modeReqs ++
        if k = .canctrl ∧ mask &&& 0xE0 ≠ 0x00 then [((d.bitModify a mask data).read a).extractLsb' 5 3]
        else [] := by
  by_cases hc : k = .canctrl
  · subst hc
    simp [d.bitModify_part mask data hk rfl, d.writeMasked_modeReqs _ _ hk, d.writeMasked_read_same _ _ hk,
      d.written_rw, Byte.and_ones]
  · obtain ⟨m, b, h⟩ := d.bitModify_eq_writeMasked mask data hk
    rw [h, d.writeMasked_modeReqs m b hk, if_neg fun h => hc h.1, if_neg fun h => hc h.1]

/-- With mask 0x00 no register changes (R124). -/
theorem Device.bitModify_none (hk : regKind a = some k) (hm : bitModifiable k = true) (a' : Nat) :
    (d.bitModify a 0x00 data).read a' = d.read a' := by
  have hold : mergeBits (d.contents a) data 0x00 = d.contents a := mergeBits_none _ _
  rw [d.bitModify_part 0x00 data hk hm, hold]
  apply Device.read_of_contents
  by_cases ha : canonAddr a' = canonAddr a
  · rw [d.writeMasked_contents_same _ _ hk ha, d.written_self, d.contents_congr ha]
  · exact d.writeMasked_contents_other _ _ ha

theorem Device.bitModify_read_part (hk : regKind a = some k) (hm : bitModifiable k = true) :
    (d.bitModify a mask data).read a =
      d.written k (d.contents a) (mergeBits (d.contents a) data mask) &&& implMask k := by
  rw [d.bitModify_part mask data hk hm, d.writeMasked_read_same _ _ hk]

theorem Device.bitModify_read_whole (hk : regKind a = some k) (hm : bitModifiable k = false) :
    (d.bitModify a mask data).read a = d.written k (d.contents a) data &&& implMask k := by
  rw [d.bitModify_whole mask data hk hm, d.writeMasked_read_same _ _ hk]

/-- A control register with read-only bits takes the masked bits that may be written. -/
theorem Device.bitModify_read_fields (hk : regKind a = some k)
    (hf : k ∈ [.txbCtrl, .rxb0Ctrl, .rxb1Ctrl, .txrtsctrl]) :
    (d.bitModify a mask data).read a =
      (d.read a &&& ~~~ (mask &&& writeMask k)) ||| (data &&& mask &&& writeMask k) := by
  have hm : bitModifiable k = true := eq_of_mem_kinds hf (by decide)
  rw [d.bitModify_read_part mask data hk hm, d.written_fields _ _ hf,
    mergeBits_fields _ _ _ (writeMask_and_implMask hf), d.read_of_regKind hk]

end

/-- Settles O52: the register by its kind's access (`bitModify_read_part`, `bitModify_read_whole`,
`bitModify_read_fields`), the request by `bitModify_modeReqs`, mask 0x00 by `bitModify_none`. -/
theorem referenceBitModify : Obligations.ReferenceBitModify := by
  intro s t addr mask data k hl hk h
  obtain ⟨raw, -, hdev, hhist⟩ := exec_reference rfl hl h
  rw [Device.answer_bitModify] at hdev hhist
  obtain ⟨m, b, hwrite⟩ := s.dev.bitModify_eq_writeMasked mask data hk
  have hpart := s.dev.bitModify_read_part mask data hk
  have hwhole := s.dev.bitModify_read_whole mask data hk
  have hfields := s.dev.bitModify_read_fields mask data hk
  rw [hdev]
  refine ⟨fun hk' => ?rw, fun hk' => ?txb, fun hk' => ?rxb0, fun hk' => ?rxb1, fun hk' => ?rts, fun hk' => ?eflg,
    fun hk' => ?whole, fun hk' => ?config, fun hk' => ?readOnly, hwrite ▸ s.dev.writeMasked_opmod ..,
    s.dev.bitModify_modeReqs mask data hk, fun hm hk' => ⟨?noRequest, ?nothing⟩, ⟨raw, hhist⟩,
    fun a ha => Device.read_of_contents (hwrite ▸ s.dev.writeMasked_contents_other _ _ ha)⟩
  case rw =>
    rw [hpart (eq_of_mem_kinds hk' (by decide)),
      s.dev.written_rw _ _ (List.mem_append_left [.txbSidl, .txbDlc, .txbByte] hk'), s.dev.read_of_regKind hk]
    show _ = mergeBits (s.dev.contents addr.toNat &&& implMask k) data mask &&& implMask k
    rw [mergeBits_and, mergeBits_and, BitVec.and_assoc, BitVec.and_self]
  case txb | rxb0 | rxb1 | rts =>
    subst hk'
    simpa using hfields (by simp)
  case eflg =>
    subst hk'
    rw [hpart rfl, s.dev.written_eflg, mergeBits_cleared, s.dev.read_of_regKind hk]
    simp [Byte.and_ones]
  case whole =>
    rw [hwhole (eq_of_mem_kinds hk' (by decide)), s.dev.written_rw _ _ (List.mem_append_right
      [.canctrl, .bfpctrl, .cnf1, .cnf2, .cnf3, .caninte, .canintf] hk')]
  case config =>
    rw [hwhole (eq_of_mem_kinds hk' (by decide)), s.dev.written_config _ _ hk', s.dev.read_of_regKind hk]
    split <;> rfl
  case readOnly =>
    rw [hwhole (eq_of_mem_kinds hk' (by decide)), s.dev.written_readOnly _ _ hk', s.dev.read_of_regKind hk]
  case noRequest =>
    subst hm
    simpa using s.dev.bitModify_modeReqs 0x00 data hk
  case nothing =>
    rw [hm]
    exact s.dev.bitModify_none data hk (eq_of_mem_kinds hk' (by decide))

/-! ### WRITE, byte by byte -/

section
variable (d : Device) {a a' : Nat} {k : RegKind} {data : List Byte}

theorem Device.writeFrame_within (h : a + data.length ≤ 0x80) : d.writeFrame a data = d.writeBurst a data :=
  if_pos (.inr h)

theorem Device.writeBurst_opmod (a : Nat) (data : List Byte) : (d.writeBurst a data).opmod = d.opmod := by
  induction data generalizing d a with
  | nil => rfl
  | cons b data ih => exact (ih _ _).trans (d.writeMasked_opmod 0xFF b a)

theorem Device.writeBurst_contents_other (h : ∀ j, j < data.length → canonAddr (a + j) ≠ canonAddr a') :
    (d.writeBurst a data).contents a' = d.contents a' := by
  induction data generalizing d a with
  | nil => rfl
  | cons b data ih =>
    have hrest (j : Nat) (hj : j < data.length) : canonAddr (a + 1 + j) ≠ canonAddr a' := by
      rw [Nat.add_right_comm]
      exact h (j + 1) (Nat.succ_lt_succ hj)
    have hfirst : canonAddr a' ≠ canonAddr a := Ne.symm (h 0 (Nat.zero_lt_succ _))
    exact (ih _ hrest).trans (d.writeMasked_contents_other 0xFF b hfirst)

/-- Two addresses reach one register only as one address, or as mirrors of CANSTAT or CANCTRL (R67). -/
theorem canonAddr_eq_cases (h : canonAddr a' = canonAddr a) :
    a' = a ∨ canonAddr a = 0x0E ∨ canonAddr a = 0x0F := by
  have hcanon (x : Nat) : canonAddr x = if x % 16 = 14 then 0x0E else if x % 16 = 15 then 0x0F else x := rfl
  rw [hcanon, hcanon] at *
  split_ifs at h ⊢ <;> simp_all

/-- The register that byte j of a burst reaches last. A byte before it may have reached the same register through a
mirror (R67), which then is CANSTAT, and kept its contents, or CANCTRL, and takes this byte whatever it held. -/
theorem Device.writeBurst_contents_last {j : Nat} {b : Byte} (hb : data[j]? = some b)
    (hlast : ∀ j', j < j' → j' < data.length → canonAddr (a + j') ≠ canonAddr (a + j))
    (hk : regKind (a + j) = some k) :
    ∃ old, (k ≠ .canctrl → old = d.contents (a + j)) ∧
      (d.writeBurst a data).contents (a + j) = d.written k old b := by
  induction data generalizing d a j with
  | nil => cases hb
  | cons b' data ih =>
    cases j with
    | zero =>
      cases hb
      have hrest (j : Nat) (hj : j < data.length) : canonAddr (a + 1 + j) ≠ canonAddr a := by
        rw [Nat.add_right_comm]
        exact hlast (j + 1) (Nat.zero_lt_succ _) (Nat.succ_lt_succ hj)
      exact ⟨d.contents a, fun _ => rfl,
        (Device.writeBurst_contents_other _ hrest).trans (d.writeMasked_contents_same 0xFF b hk rfl)⟩
    | succ j =>
      have hshift (x : Nat) : a + (x + 1) = a + 1 + x := (Nat.add_right_comm a 1 x).symm
      rw [hshift] at hk hlast ⊢
      obtain ⟨old, hold, hnew⟩ := ih (d.writeByte a b') hb
        (fun j' hj hj' => hshift j' ▸ hlast (j' + 1) (Nat.succ_lt_succ hj) (Nat.succ_lt_succ hj')) hk
      refine ⟨old, fun hc => (hold hc).trans ?_,
        hnew.trans (Device.written_of_opmod _ _ (d.writeMasked_opmod 0xFF b' a) k)⟩
      by_cases h : canonAddr (a + 1 + j) = canonAddr a
      · obtain hsame | hstat | hctrl := canonAddr_eq_cases h
        · omega
        · exact d.writeMasked_canstat 0xFF b' (h.trans hstat)
        · have := (regKind_canctrl_iff (addr_of_regKind hk)).2 (h.trans hctrl)
          exact absurd (Option.some.inj (hk.symm.trans this)) hc
      · exact d.writeMasked_contents_other 0xFF b' h

theorem Device.writeByte_modeReqs (ha : a ≤ 0x7F) (b : Byte) :
    (d.writeByte a b).modeReqs = d.modeReqs ++ if canonAddr a = 0x0F then [b.extractLsb' 5 3] else [] := by
  obtain ⟨k, hk⟩ := Option.isSome_iff_exists.mp (regKind_isSome ha)
  have hctrl := regKind_canctrl_iff ha
  rw [hk] at hctrl
  simp [Device.writeByte, d.writeMasked_modeReqs _ _ hk, ← hctrl]

/-- Every byte that reaches CANCTRL requests a mode (R71; log 14). -/
theorem Device.writeBurst_modeReqs (n : Nat) (h : a + n + data.length ≤ 0x80) :
    (d.writeBurst (a + n) data).modeReqs =
      d.modeReqs ++
        (((data.zipIdx n).filter fun p => canonAddr (a + p.2) = 0x0F).map fun p => p.1.extractLsb' 5 3) := by
  induction data generalizing d n with
  | nil => simp [Device.writeBurst]
  | cons b data ih =>
    have hlen : a + n + (data.length + 1) ≤ 0x80 := h
    rw [Device.writeBurst, Nat.add_assoc a n 1, ih (d.writeByte (a + n) b) (n + 1) (by omega),
      d.writeByte_modeReqs (by omega), List.zipIdx_cons, List.append_assoc]
    by_cases hc : canonAddr (a + n) = 0x0F
    · simp [hc]
    · simp [hc]

/-- A control register with read-only bits takes the bits that may be written. -/
theorem Device.written_fields_and (old new : Byte) (hf : k ∈ [.txbCtrl, .rxb0Ctrl, .rxb1Ctrl, .txrtsctrl]) :
    d.written k old new &&& implMask k = (old &&& implMask k &&& ~~~ writeMask k) ||| (new &&& writeMask k) := by
  rw [d.written_fields _ _ hf, mergeBits_and, mergeBits, BitVec.and_assoc new,
    BitVec.and_comm (implMask k) (writeMask k), writeMask_and_implMask hf]

end

/-- Settles O50: the register that each byte reaches last by `writeBurst_contents_last` and its kind's access. -/
theorem referenceWrite : Obligations.ReferenceWrite := by
  intro s t addr data hl hlen h
  obtain ⟨raw, -, hdev, -⟩ := exec_reference rfl hl h
  rw [Device.answer_write, s.dev.writeFrame_within hlen] at hdev
  rw [hdev]
  refine ⟨fun j b k hb hlast hk => ?_, fun a ha => Device.read_of_contents (s.dev.writeBurst_contents_other ha),
    s.dev.writeBurst_opmod _ _, s.dev.writeBurst_modeReqs 0 hlen⟩
  obtain ⟨old, hold, hnew⟩ := s.dev.writeBurst_contents_last hb hlast hk
  dsimp only
  rw [Device.read_of_regKind _ hk, Device.read_of_regKind _ hk, hnew]
  refine ⟨fun hk' => ?rw, fun hk' => ?readOnly, fun hk' => ?eflg, fun hk' => ?txb, fun hk' => ?rxb0,
    fun hk' => ?rxb1, fun hk' => ?rts, fun hk' => ?config⟩
  case rw => rw [s.dev.written_rw _ _ hk']
  case readOnly => rw [s.dev.written_readOnly _ _ hk', hold (by rintro rfl; simp at hk')]
  case eflg =>
    subst hk'
    rw [s.dev.written_eflg, hold nofun]
    simp [Byte.and_ones]
  case txb | rxb0 | rxb1 | rts =>
    subst hk'
    rw [s.dev.written_fields_and _ _ (by simp), hold nofun]
    simp [BitVec.and_assoc]
  case config =>
    rw [s.dev.written_config _ _ hk', hold (by rintro rfl; simp at hk')]
    split <;> rfl

/-! ### The mode change -/

theorem knownModeCode_modeCode (m : Mode) : knownModeCode (modeCode m) = true := by cases m <;> decide

section
variable (d : Device) (code : BitVec 3)

theorem Device.setOpmod_getLsbD {j : Nat} (hj : j < 8) :
    ((d.setOpmod code).read 0x0E).getLsbD j =
      ((if (0xE0 : Byte).getLsbD j then (fieldAt 5 code).getLsbD j else (d.contents 0x0E).getLsbD j) &&
        (0xEE : Byte).getLsbD j) := by
  have hread : (d.setOpmod code).read 0x0E =
      mergeBits (d.contents 0x0E) (fieldAt 5 code) (fieldMask 5 3) &&& implBits 0x0E := d.read_store_same 0x0E _
  rw [hread, implBits_canstat, fieldMask_mode, BitVec.getLsbD_and, mergeBits_getLsbD _ _ _ hj]

theorem Device.opmod_setOpmod : (d.setOpmod code).opmod = code := by
  rw [Device.opmod, addrCanstat_eq]
  apply BitVec.eq_of_getLsbD_eq
  intro i hi
  simp only [Config.dev_opmod, BitVec.getLsbD_extractLsb']
  rw [d.setOpmod_getLsbD code (by omega)]
  interval_cases i <;> simp [fieldAt]

/-- Entering a mode leaves the other bits of CANSTAT. -/
theorem Device.setOpmod_low : (d.setOpmod code).read 0x0E &&& 0x1F = d.read 0x0E &&& 0x1F := by
  apply BitVec.eq_of_getLsbD_eq
  intro i hi
  rw [BitVec.getLsbD_and, BitVec.getLsbD_and, d.setOpmod_getLsbD code hi, Device.read, implBits_canstat]
  interval_cases i <;> simp

theorem Device.takeMode_known {k : Nat} {m : Mode} (h : d.modeReqs[k]? = some (modeCode m)) (drawn : Byte) :
    d.takeMode k drawn = { d.setOpmod (modeCode m) with modeReqs := d.modeReqs.eraseIdx k } := by
  simp only [Device.takeMode, h, Device.enterMode, knownModeCode_modeCode, if_true]

theorem Device.takeLastMode_known {m : Mode} (h : d.modeReqs.getLast? = some (modeCode m)) (drawn : Byte) :
    d.takeLastMode drawn = { d.setOpmod (modeCode m) with modeReqs := [] } := by
  simp only [Device.takeLastMode, h, Device.enterMode, knownModeCode_modeCode, if_true]

end

/-- Under a device law the turn of the device's mode change takes a request from those that wait (R71). -/
theorem modeTurn_law {s : State} (hl : s.dev.law ≠ .any) (k : Nat) :
    modeTurn k s = { s with dev := s.dev.takeMode k (drawByte s.env).1, env := (drawByte s.env).2 } := by
  simp only [modeTurn, hl, if_false]

/-- Settles O54: the write is O50's burst of one byte; the device's turn and the simulator's transaction are
`setOpmod` of the request's code. -/
theorem modeChangeIsDelayed : Obligations.ModeChangeIsDelayed := by
  refine ⟨fun s t b hl h => ?request, fun s t more k m hl hlink hturns hreq h => ?taken,
    fun s t m hl hreq h => ?simulator⟩
  case request =>
    obtain ⟨raw, -, hdev, -⟩ := exec_reference rfl hl h
    rw [Device.answer_write, s.dev.writeFrame_within (by simp)] at hdev
    rw [hdev]
    exact ⟨s.dev.writeBurst_opmod _ _, s.dev.writeBurst_modeReqs 0 (by simp)⟩
  case taken =>
    rw [step_chosen hlink hturns, turnStep, modeTurn_law (s := turnTaken more s) hl,
      s.dev.takeMode_known hreq] at h
    cases h
    exact ⟨s.dev.opmod_setOpmod _, rfl, fun a ha => s.dev.read_store_other _ ha, s.dev.setOpmod_low _, rfl⟩
  case simulator =>
    rw [exec_spi rfl] at h
    cases h
    simp only [transact_dev, deviceXfer, hl, Device.answer_readStatus, s.dev.takeLastMode_known hreq, and_true]
    exact s.dev.opmod_setOpmod _

end Sys2Proof.Machine
end

section
/-! URX beside SEQ (O12): a step of an instruction is the same whatever URX's registers and the earlier events and
units are, and a byte of URX adds events and units that depend on its own registers and the parameters alone. -/

namespace Sys2Proof.Machine

/-! ### An instruction on a state with other URX registers and more events -/

/-- `s` with other URX registers, and with units and events before its own. SEQ does not read these, and appends to
the last two alone (R37, R38, R61.7). -/
def overlay (v : Urx) (units : List (List Byte)) (es : List Event) (s : State) : State :=
  { s with urx := v, uartTx := units ++ s.uartTx, history := es ++ s.history }

/-- An outcome with its next state, where it answers one, changed by `f`. -/
def mapNext (f : State → State) : Host.Outcome State Fault Refusal → Host.Outcome State Fault Refusal
  | .next t => .next (f t)
  | .fault r => .fault r
  | .refused r => .refused r

section
variable (v : Urx) (units : List (List Byte)) (es : List Event) (s : State)

theorem transact_overlay (tx : List Byte) :
    transact tx (overlay v units es s) = overlay v units es (transact tx s) := by
  simp [overlay, transact]

theorem seqXfer_overlay (tx : List Byte) (p : Point) :
    seqXfer tx p (overlay v units es s) = overlay v units es (seqXfer tx p s) := by
  simp [overlay, seqXfer, goTo, transact, misoOf]

theorem seqEmit_overlay (l : List Byte) (p : Point) :
    seqEmit l p (overlay v units es s) = overlay v units es (seqEmit l p s) := by
  simp [overlay, seqEmit, goTo, emitUart]

theorem finish_overlay (o : Operation) (r : OpResult) :
    finish o r (overlay v units es s) = overlay v units es (finish o r s) := by
  simp [overlay, finish]

theorem raiseOp_overlay (i : Instr) (e : ErrorCode) (info : Byte) :
    raiseOp i e info (overlay v units es s) = overlay v units es (raiseOp i e info s) := by
  unfold raiseOp raiseError
  split
  · simp [overlay, enterFault]
  · exact finish_overlay ..

theorem completeFaulted_overlay (o : Operation) :
    completeFaulted o (overlay v units es s) = overlay v units es (completeFaulted o s) := by
  simp [overlay, completeFaulted]

end

section
variable {v : Urx} {units : List (List Byte)} {es : List Event} {s : State} {i : Instr}

@[simp] theorem overlay_cfg : (overlay v units es s).cfg = s.cfg := rfl
@[simp] theorem overlay_env : (overlay v units es s).env = s.env := rfl
@[simp] theorem overlay_attempt : (overlay v units es s).attempt = s.attempt := rfl

theorem ite_overlay {a a' b b' : State} {c : Prop} [Decidable c] (ha : a' = overlay v units es a)
    (hb : b' = overlay v units es b) : (if c then a' else b') = overlay v units es (if c then a else b) := by
  rw [ha, hb, apply_ite (overlay v units es)]

theorem next_overlay {a a' : State} (h : a' = overlay v units es a) :
    (.next a' : Host.Outcome State Fault Refusal) = mapNext (overlay v units es) (.next a) := congrArg _ h

theorem readScratch_overlay {α : Type} {x : Option α} {rule rule' : α → Host.Outcome State Fault Refusal}
    (h : ∀ a, rule' a = mapNext (overlay v units es) (rule a)) :
    readScratch x rule' = mapNext (overlay v units es) (readScratch x rule) := by
  cases x with
  | none => rfl
  | some a => exact h a

theorem unlessFault_overlay {rule rule' : Point → Host.Outcome State Fault Refusal}
    (h : ∀ p, rule' p = mapNext (overlay v units es) (rule p)) :
    unlessFault i (overlay v units es s) rule' = mapNext (overlay v units es) (unlessFault i s rule) := by
  by_cases hf : s.seqState = .fault
  · rw [unlessFault_fault i rule hf, unlessFault_fault i (s := overlay v units es s) rule' hf,
      completeFaulted_overlay]
    rfl
  · rw [unlessFault_run i rule hf, unlessFault_run i (s := overlay v units es s) rule' hf]
    exact h _

theorem singleStep_overlay {r r' : State} (h : r' = overlay v units es r) :
    singleStep i (overlay v units es s) r' = mapNext (overlay v units es) (singleStep i s r) := by
  refine unlessFault_overlay fun p => ?_
  split
  · exact next_overlay h
  · rfl

theorem oneXfer_overlay {r r' : State} {o o' : Host.Outcome State Fault Refusal} (h : r' = overlay v units es r)
    (ho : o' = mapNext (overlay v units es) o) :
    oneXfer i (overlay v units es s) r' o' = mapNext (overlay v units es) (oneXfer i s r o) := by
  refine unlessFault_overlay fun p => ?_
  split
  · exact next_overlay h
  · exact ho
  · rfl

theorem modePolledStep_overlay {m : Mode} {c : ModeCall} {e : ErrorCode}
    {rest rest' : State → Host.Outcome State Fault Refusal}
    (h : ∀ s', rest' (overlay v units es s') = mapNext (overlay v units es) (rest s')) :
    modePolledStep i m c e (overlay v units es s) rest' =
      mapNext (overlay v units es) (modePolledStep i m c e s rest) := by
  refine readScratch_overlay fun canstat => ?_
  unfold modeCheck
  by_cases hm : canstat.extractLsb' Config.dev.opmod 3 = modeCode m
  · rw [if_pos hm, if_pos hm]
    exact h { s with attempt := 0, curMode := .known m }
  · rw [if_neg hm, if_neg hm]
    cases hd : (drawExpiry s.env).1 with
    | false =>
      simp only [overlay_env, hd, if_true]
      exact next_overlay (seqXfer_overlay (s := { s with env := (drawExpiry s.env).2 }) ..)
    | true =>
      by_cases ha : s.attempt < Config.modeAttempts
      · simp only [overlay_env, overlay_attempt, hd, Bool.true_eq_false, if_false, ha, if_true]
        exact next_overlay
          (seqXfer_overlay (s := { s with env := (drawExpiry s.env).2, attempt := s.attempt + 1 }) ..)
      · simp only [overlay_env, overlay_attempt, hd, Bool.true_eq_false, if_false, ha]
        exact next_overlay (raiseOp_overlay (s := { s with env := (drawExpiry s.env).2, attempt := 0 }) ..)

theorem modeStart_overlay (m : Mode) (c : ModeCall) :
    modeStart m c (overlay v units es s) = overlay v units es (modeStart m c s) :=
  seqXfer_overlay (s := { s with attempt := 1 }) ..

theorem initBegin_overlay (bitrate crystal : Nat) (mode : Mode) (silent : Bool) :
    initBegin i bitrate crystal mode silent (overlay v units es s) =
      overlay v units es (initBegin i bitrate crystal mode silent s) := by
  unfold initBegin
  refine ite_overlay (raiseOp_overlay ..) ?_
  rw [overlay_cfg]
  cases bitrateLookup s.cfg.bitrateTable bitrate crystal with
  | none => exact raiseOp_overlay ..
  | some _ => exact ite_overlay (raiseOp_overlay ..) (seqXfer_overlay (s := forgetDevice s) ..)

theorem execInit_overlay (bitrate crystal : Nat) (mode : Mode) (silent : Bool) :
    execInit bitrate crystal mode silent (overlay v units es s) =
      mapNext (overlay v units es) (execInit bitrate crystal mode silent s) := by
  unfold execInit
  refine unlessFault_overlay fun p => ?_
  split
  · exact next_overlay (initBegin_overlay ..)
  · exact next_overlay (modeStart_overlay ..)
  · exact next_overlay (seqXfer_overlay ..)
  · exact modePolledStep_overlay fun s' => readScratch_overlay fun _ => next_overlay (seqXfer_overlay ..)
  · exact next_overlay (modeStart_overlay ..)
  · split
    · exact next_overlay (seqXfer_overlay ..)
    · rfl
  · exact modePolledStep_overlay fun s' => next_overlay (finish_overlay (s := { s' with initialized := true }) ..)

theorem execSetMode_overlay (mode : Mode) :
    execSetMode mode (overlay v units es s) = mapNext (overlay v units es) (execSetMode mode s) := by
  unfold execSetMode
  refine unlessFault_overlay fun p => ?_
  split
  · exact next_overlay (ite_overlay (modeStart_overlay ..) (raiseOp_overlay ..))
  · exact next_overlay (seqXfer_overlay ..)
  · exact modePolledStep_overlay fun s' => next_overlay (finish_overlay ..)
  · rfl

theorem sendLoad_overlay (f : CanFrame) (st : Byte) :
    sendLoad i f st (overlay v units es s) = overlay v units es (sendLoad i f st s) := by
  unfold sendLoad
  dsimp only
  split
  · exact raiseOp_overlay (s := { s with scratch := { s.scratch with st := some st } }) ..
  · rename_i sel _
    exact seqXfer_overlay (s := { s with scratch := { s.scratch with st := some st, sel := some sel } }) ..

theorem execSend_overlay (f : CanFrame) :
    execSend f (overlay v units es s) = mapNext (overlay v units es) (execSend f s) := by
  unfold execSend
  refine unlessFault_overlay fun p => ?_
  split
  · exact next_overlay (ite_overlay (raiseOp_overlay ..) (ite_overlay (raiseOp_overlay ..)
      (ite_overlay (seqXfer_overlay ..) (raiseOp_overlay ..))))
  · exact readScratch_overlay fun st => next_overlay (sendLoad_overlay ..)
  · exact readScratch_overlay fun _ => next_overlay (seqXfer_overlay ..)
  · exact readScratch_overlay fun _ => next_overlay (finish_overlay ..)
  · rfl

theorem pollDrain_overlay : pollDrain (overlay v units es s) = overlay v units es (pollDrain s) :=
  finish_overlay (s := { s with rxFifo := [] }) ..

theorem pollSecond_overlay (st : Byte) :
    pollSecond st (overlay v units es s) = overlay v units es (pollSecond st s) :=
  ite_overlay (seqXfer_overlay ..) pollDrain_overlay

theorem pollFirst_overlay (st : Byte) :
    pollFirst st (overlay v units es s) = overlay v units es (pollFirst st s) :=
  ite_overlay (seqXfer_overlay ..) (pollSecond_overlay st)

theorem execPollReceive_overlay :
    execPollReceive (overlay v units es s) = mapNext (overlay v units es) (execPollReceive s) := by
  refine unlessFault_overlay fun p => ?_
  split
  · exact next_overlay (ite_overlay (seqXfer_overlay ..) (raiseOp_overlay ..))
  · exact readScratch_overlay fun st => next_overlay
      (pollFirst_overlay (s := { s with scratch := { s.scratch with st := some st } }) st)
  · exact readScratch_overlay fun rx => readScratch_overlay fun img => readScratch_overlay fun st =>
      next_overlay (pollSecond_overlay (s := pollPush (pollBuf rx) img s) st)
  · exact readScratch_overlay fun rx => readScratch_overlay fun img =>
      next_overlay (pollDrain_overlay (s := pollPush (pollBuf rx) img s))
  · rfl

theorem execListen_overlay (fs : FilterSet) :
    execListen fs (overlay v units es s) = mapNext (overlay v units es) (execListen fs s) := by
  unfold execListen
  refine unlessFault_overlay fun p => ?_
  split
  · exact next_overlay (ite_overlay (raiseOp_overlay ..) (ite_overlay (raiseOp_overlay ..)
      (ite_overlay (raiseOp_overlay ..)
        (modeStart_overlay (s := { s with scratch := { s.scratch with prior := curModeKnown s.curMode } }) ..))))
  · exact next_overlay (seqXfer_overlay ..)
  · exact modePolledStep_overlay fun s' => next_overlay (seqXfer_overlay ..)
  · cases fs with
    | empty => exact readScratch_overlay fun _ => next_overlay (modeStart_overlay ..)
    | full r => exact next_overlay (seqXfer_overlay ..)
  · cases fs with
    | empty => rfl
    | full r => exact next_overlay (seqXfer_overlay ..)
  · cases fs with
    | empty => rfl
    | full r => exact readScratch_overlay fun _ => next_overlay (modeStart_overlay ..)
  · exact readScratch_overlay fun _ => modePolledStep_overlay fun s' =>
      next_overlay (finish_overlay (s := { s' with filtersLocked := true }) ..)
  · rfl

/-- One step of an instruction commutes with an overlay, rule by rule. -/
theorem exec_overlay (i : Instr) (v : Urx) (units : List (List Byte)) (es : List Event) (s : State) :
    exec i (overlay v units es s) = mapNext (overlay v units es) (exec i s) := by
  cases i with
  | getStatus | decId | decDlc | decFrame => exact singleStep_overlay (finish_overlay ..)
  | encId | encDlc | uartCks | uartBuild =>
    exact singleStep_overlay (ite_overlay (raiseOp_overlay ..) (finish_overlay ..))
  | encFrame =>
    exact singleStep_overlay
      (ite_overlay (raiseOp_overlay ..) (ite_overlay (raiseOp_overlay ..) (finish_overlay ..)))
  | uartParse bytes =>
    refine singleStep_overlay ?_
    split
    · exact raiseOp_overlay ..
    · exact finish_overlay ..
  | uartSend type payload =>
    unfold exec execUartSend
    refine unlessFault_overlay fun p => ?_
    split
    · exact next_overlay (ite_overlay (raiseOp_overlay ..) (seqEmit_overlay ..))
    · exact next_overlay (finish_overlay ..)
    · rfl
  | spiReset => exact oneXfer_overlay (seqXfer_overlay (s := forgetDevice s) ..) (next_overlay (finish_overlay ..))
  | regWrite | bitModify | rts | loadTx =>
    exact oneXfer_overlay (ite_overlay (raiseOp_overlay ..) (seqXfer_overlay ..)) (next_overlay (finish_overlay ..))
  | regRead | readRx =>
    exact oneXfer_overlay (ite_overlay (raiseOp_overlay ..) (seqXfer_overlay ..))
      (readScratch_overlay fun _ => next_overlay (finish_overlay ..))
  | readStatus | rxStatus =>
    exact oneXfer_overlay (seqXfer_overlay ..) (readScratch_overlay fun _ => next_overlay (finish_overlay ..))
  | busState =>
    exact oneXfer_overlay (ite_overlay (seqXfer_overlay ..) (raiseOp_overlay ..))
      (readScratch_overlay fun _ => next_overlay (finish_overlay ..))
  | init => exact execInit_overlay ..
  | setMode => exact execSetMode_overlay _
  | send => exact execSend_overlay _
  | pollReceive => exact execPollReceive_overlay
  | listen => exact execListen_overlay _
  | spiInstrReset | spiRead | spiReadRxBuffer | spiWrite | spiLoadTxBuffer | spiRts | spiReadStatus
  | spiRxStatus | spiBitModify =>
    exact next_overlay (transact_overlay (s := { s with link := none }) ..)

end

/-! ### What a byte of URX adds -/

/-- The event of a complete frame, and its ACK where the parameters ask for one (R231). -/
def deliverEvents (cfg : Params) (u : Urx) (c : Byte) : List Event :=
  let ack : List Event := [.uartTx [Config.uartAck]]
  let cksOk := decide (c = urxExpected u)
  if cksOk || !cfg.checksumEnforce then
    .uartFrame u.utype (urxPayload u u.len.toNat) cksOk ::
      if cfg.ackPolicy = .everyFrame ∨ cfg.ackPolicy = .validOnly then ack else []
  else .uartCorrupt u.utype u.len c (urxExpected u) :: if cfg.ackPolicy = .everyFrame then ack else []

/-- The events of URX's step with a byte (R230, R231). -/
def urxEvents (cfg : Params) (u : Urx) (b : Byte) : List Event :=
  .uartRx b :: match u.state with
    | .cks => deliverEvents cfg u b
    | _ => []

theorem deliver_eq (c : Byte) (s : State) :
    deliver c s =
      { s with
        uartTx := s.uartTx ++ txUnits (deliverEvents s.cfg s.urx c)
        history := s.history ++ deliverEvents s.cfg s.urx c } := by
  unfold deliver deliverEvents
  dsimp only
  split_ifs <;> simp [logEvent, emitUart, txUnits]

theorem urxByte_eq (b : Byte) (s : State) :
    urxByte b s =
      { s with
        urx := urxNext s.urx b
        uartTx := s.uartTx ++ txUnits (urxEvents s.cfg s.urx b)
        history := s.history ++ urxEvents s.cfg s.urx b } := by
  unfold urxByte urxEvents
  cases hu : s.urx.state with
  | cks => simp [deliver_eq, txUnits]
  | hunt | type | len | data => simp [logEvent, txUnits]

/-! ### The exchange -/

/-- What an instruction does to a state it does whatever URX's registers are and whatever more the history and the
UART stream hold, and it leaves them there. -/
theorem exec_beside {i : Instr} {s t : State} (h : exec i s = .next t) :
    ∃ t₀, t = overlay s.urx s.uartTx s.history t₀ ∧ t₀.cfg = s.cfg ∧
      ∀ (v : Urx) (units : List (List Byte)) (es : List Event),
        exec i { s with urx := v, uartTx := s.uartTx ++ units, history := s.history ++ es } =
          .next (overlay v (s.uartTx ++ units) (s.history ++ es) t₀) := by
  let s₀ : State := { s with uartTx := [], history := [] }
  have hs : s = overlay s.urx s.uartTx s.history s₀ := by simp [s₀, overlay]
  have hbeside (v : Urx) (units : List (List Byte)) (es : List Event) :
      { s with urx := v, uartTx := s.uartTx ++ units, history := s.history ++ es } =
        overlay v (s.uartTx ++ units) (s.history ++ es) s₀ := by simp [s₀, overlay]
  rw [hs, exec_overlay] at h
  cases h₀ : exec i s₀ with
  | fault r => rw [h₀] at h; cases h
  | refused r => rw [h₀] at h; cases h
  | next t₀ =>
    rw [h₀] at h
    cases h
    refine ⟨t₀, rfl, (exec_leavesOthers h₀).cfg, fun v units es => ?_⟩
    rw [hbeside, exec_overlay, h₀]
    rfl

/-- Settles O12: URX's turn by `urxByte_eq`; the exchange by `exec_beside`, as the instruction leaves URX's registers
and the parameters, and with them what the byte adds. -/
theorem receiverRunsBesideSeq : Obligations.ReceiverRunsBesideSeq := by
  refine ⟨fun s more b rest hl ht hrx => ?turn, fun i b s t h => ?exchange⟩
  case turn =>
    refine ⟨urxByte b { s with env := { s.env with turns := more, uartRx := rest } }, ?_, ?_, ?_⟩
    · rw [step_chosen hl ht]
      simp only [turnStep, urxStep, hrx]
    · rw [urxByte_eq]
    · rw [urxByte_eq]
      exact ⟨_, rfl⟩
  case exchange =>
    obtain ⟨t₀, rfl, hcfg, hnext⟩ := exec_beside h
    have exchanged {α : Type} (a x y : List α) : (a ++ x ++ y).Perm (a ++ y ++ x) := by
      rw [List.append_assoc, List.append_assoc]
      exact List.perm_append_comm.append_left a
    have hsame : (overlay s.urx s.uartTx s.history t₀).cfg = s.cfg := hcfg
    rw [urxByte_eq b s, hnext, urxByte_eq]
    refine ⟨_, rfl, rfl, ?_, ?_⟩
    · rw [hsame]
      exact exchanged ..
    · rw [hsame]
      exact exchanged ..

end Sys2Proof.Machine
end

section
/-! Transmission by the reference device (O56): its turns, when a requested transmission completes and what that
changes, and the frame that the device receives of its own in loopback mode. -/

namespace Sys2Proof.Machine

/-! ### A completed transmission -/

section
variable (d : Device) (n : Fin Config.nTxBuf)

/-- The device once the transmission of TXBn has completed: TXREQ is cleared and TXnIF set (R73). -/
def Device.sent (d : Device) (n : Fin Config.nTxBuf) : Device :=
  (d.clearBit (txbBase n) Config.dev.txreq).setBit addrCanintf Config.dev.txif[n]

theorem canonAddr_txbBase : canonAddr (txbBase n) = txbBase n := by revert n; decide

theorem txbBase_ne_canintf : canonAddr (txbBase n) ≠ canonAddr 0x2C := by revert n; decide

theorem Device.sent_ctrl : (d.sent n).read (txbBase n) = d.read (txbBase n) &&& 0xF7 :=
  (Device.read_setBit_other _ _ (txbBase_ne_canintf n)).trans (d.read_clearBit_same _ _)

theorem implBits_canintf_getLsbD {i : Nat} (h : i < 8) : (implBits 0x2C).getLsbD i = true := by
  rw [implBits_canintf]
  interval_cases i <;> rfl

theorem Device.sent_flags : (d.sent n).read 0x2C = d.read 0x2C ||| BitVec.twoPow 8 (2 + n.val) := by
  have hflag : Config.dev.txif[n] = 2 + n.val := by revert n; decide
  have hi : Config.dev.txif[n] < 8 := by
    have hn : n.val < 3 := n.isLt
    omega
  have hread := Device.read_setBit_same (d.clearBit (txbBase n) Config.dev.txreq) (implBits_canintf_getLsbD hi)
  rw [Device.read_clearBit_other _ _ (Ne.symm (txbBase_ne_canintf n)), hflag] at hread
  rw [Device.sent, hflag]
  exact hread

theorem Device.sent_other {a : Nat} (ha : canonAddr a ≠ txbBase n) (hf : canonAddr a ≠ 0x2C) :
    (d.sent n).read a = d.read a := by
  rw [Device.sent, Device.read_setBit_other _ _ (by exact hf),
    Device.read_clearBit_other _ _ (by rwa [canonAddr_txbBase])]

theorem Device.transmits_iff :
    d.transmits = true ↔ d.opmod ≠ 0b011#3 ∧ d.opmod ≠ 0b100#3 ∧ d.bit 0x2D 5 = false := by
  simp [Device.transmits, and_assoc]

variable (named : Fin Config.nFilt) (img : BufferImage) (other : Bool)

theorem Device.txDone_pending
    (h : d.bit (txbBase n) 3 = false ∨ d.opmod = 0b011#3 ∨ d.opmod = 0b100#3 ∨ d.bit 0x2D 5 = true) :
    d.txDone n named img other = d := by
  have hnot : ¬ (d.bit (txbBase n) Config.dev.txreq && d.transmits) = true := by
    rw [Bool.and_eq_true, d.transmits_iff]
    rintro ⟨hreq, hlisten, hconfig, hoff⟩
    obtain h | h | h | h := h
    · exact absurd (hreq.symm.trans h) nofun
    · exact hlisten h
    · exact hconfig h
    · exact absurd (hoff.symm.trans h) nofun
  exact if_neg hnot

theorem Device.txDone_sent
    (h : ¬ (d.bit (txbBase n) 3 = false ∨ d.opmod = 0b011#3 ∨ d.opmod = 0b100#3 ∨ d.bit 0x2D 5 = true)) :
    d.txDone n named img other =
      if d.opmod = 0b010#3 then (d.sent n).receive named (d.ownFrame n img) other else d.sent n := by
  simp only [not_or, Bool.not_eq_false, Bool.not_eq_true] at h
  obtain ⟨hreq, hsends⟩ := h
  have hcond : (d.bit (txbBase n) Config.dev.txreq && d.transmits) = true :=
    Bool.and_eq_true _ _ ▸ ⟨hreq, d.transmits_iff.2 hsends⟩
  exact if_pos hcond

/-! ### The frame that the device receives of its own (R289) -/

theorem Device.ownFrame_sidl :
    (d.ownFrame n img).ident.sidl =
      if (d.txByte n 1).getLsbD 3 then mergeBits img.ident.sidl (d.txByte n 1) 0xEB
      else mergeBits img.ident.sidl (mergeBits (d.txByte n 1) (bitIf ((d.txByte n 4).getLsbD 6) 4) 0x10) 0xF8 := rfl

theorem Device.ownFrame_dlc :
    (d.ownFrame n img).dlc =
      mergeBits img.dlc (d.txByte n 4) (if (d.txByte n 1).getLsbD 3 then 0x4F else 0x0F) := rfl

/-- SID2 to SID0 and IDE, and EID17 and EID16 of an extended frame, are the transmitted frame's. -/
theorem Device.ownFrame_sidl_getLsbD {k : Nat} (hk : k < 8)
    (h : k = 3 ∨ 5 ≤ k ∨ (d.txByte n 1).getLsbD 3 = true ∧ k < 2) :
    (d.ownFrame n img).ident.sidl.getLsbD k = (d.txByte n 1).getLsbD k := by
  rw [d.ownFrame_sidl]
  split
  · rw [mergeBits_getLsbD _ _ _ hk, if_pos]
    revert h
    interval_cases k <;> simp
  · rename_i hext
    have h : k = 3 ∨ 5 ≤ k := h.imp_right fun h => h.resolve_right fun h => hext h.1
    rw [mergeBits_getLsbD _ _ _ hk, mergeBits_getLsbD _ _ _ hk, if_pos, if_neg]
    · revert h
      interval_cases k <;> simp
    · revert h
      interval_cases k <;> simp

/-- The identifier and its type are the transmitted frame's. -/
theorem Device.ownFrame_ident :
    decExt (d.ownFrame n img).ident = (d.txByte n 1).getLsbD 3 ∧
      decIdValue (d.ownFrame n img).ident =
        decIdValue ⟨d.txByte n 0, d.txByte n 1, d.txByte n 2, d.txByte n 3⟩ := by
  have hext : decExt (d.ownFrame n img).ident = (d.txByte n 1).getLsbD 3 :=
    d.ownFrame_sidl_getLsbD n img (by decide) (.inl rfl)
  refine ⟨hext, ?_⟩
  have hsid : sidlSid (d.ownFrame n img).ident = (d.txByte n 1).extractLsb' 5 3 := by
    apply BitVec.eq_of_getLsbD_eq
    intro i hi
    simp only [sidlSid, Config.dev_sidlSid, BitVec.getLsbD_extractLsb']
    rw [d.ownFrame_sidl_getLsbD n img (by omega) (.inr (.inl (by omega)))]
  unfold decIdValue
  rw [hext, hsid]
  cases h : (d.txByte n 1).getLsbD 3 with
  | false =>
    have hstd : ¬ decExt ⟨d.txByte n 0, d.txByte n 1, d.txByte n 2, d.txByte n 3⟩ = true := by
      show ¬ (d.txByte n 1).getLsbD 3 = true
      rw [h]
      nofun
    rw [if_neg nofun, if_neg hstd]
    rfl
  | true =>
    have heid : sidlEid (d.ownFrame n img).ident = (d.txByte n 1).extractLsb' 0 2 := by
      apply BitVec.eq_of_getLsbD_eq
      intro i hi
      simp only [sidlEid, Config.dev_sidlEid, BitVec.getLsbD_extractLsb']
      rw [d.ownFrame_sidl_getLsbD n img (by omega) (.inr (.inr ⟨h, by omega⟩))]
    have h8 : (d.ownFrame n img).ident.eid8 = d.txByte n 2 := if_pos h
    have h0 : (d.ownFrame n img).ident.eid0 = d.txByte n 3 := if_pos h
    rw [heid, h8, h0, if_pos rfl, if_pos (by exact h)]
    rfl

/-- The remote flag is the transmitted frame's, in RTR of an extended frame and SRR of a standard one (R198). -/
theorem Device.ownFrame_remote :
    (if (d.txByte n 1).getLsbD 3 then (d.ownFrame n img).dlc.getLsbD 6
      else (d.ownFrame n img).ident.sidl.getLsbD 4) = (d.txByte n 4).getLsbD 6 := by
  rw [d.ownFrame_sidl, d.ownFrame_dlc]
  split
  · rw [mergeBits_getLsbD _ _ _ (by decide), if_pos (by decide)]
  · rw [mergeBits_getLsbD _ _ _ (by decide), if_pos (by decide), mergeBits_getLsbD _ _ _ (by decide),
      if_pos (by decide), bitIf_getLsbD]
    rfl

theorem Device.ownFrame_length : (d.ownFrame n img).dlc &&& 0x0F = d.txByte n 4 &&& 0x0F := by
  apply BitVec.eq_of_getLsbD_eq
  intro i hi
  rw [d.ownFrame_dlc, BitVec.getLsbD_and, BitVec.getLsbD_and, mergeBits_getLsbD _ _ _ hi]
  by_cases hlow : i < 4
  · rw [if_pos]
    split <;> interval_cases i <;> decide
  · have hhigh : (0x0F : Byte).getLsbD i = false := by interval_cases i <;> rfl
    rw [hhigh, Bool.and_false, Bool.and_false]

/-- The data bytes that the length counts are the transmitted frame's. -/
theorem Device.ownFrame_data (h : (d.txByte n 4).getLsbD 6 = false) :
    (imageData (d.ownFrame n img)).take (d.txByte n 4 &&& 0x0F).toNat =
      (d.readBurst (txbBase n + 6) 8).take (d.txByte n 4 &&& 0x0F).toNat := by
  have hlen : ∀ b : Byte, (b &&& 0x0F).toNat = (b.extractLsb' 0 4).toNat := by decide
  rw [hlen]
  apply List.ext_getElem?
  intro k
  rw [List.getElem?_take, List.getElem?_take]
  split
  · rename_i hk
    by_cases h8 : k < 8
    · have hin : k < if (d.txByte n 4).getLsbD 6 then 0 else min ((d.txByte n 4).extractLsb' 0 4).toNat 8 := by
        rw [h, if_neg nofun]
        exact Nat.lt_min.2 ⟨hk, h8⟩
      interval_cases k <;> exact congrArg some (if_pos hin)
    · rw [List.getElem?_eq_none (by simpa [imageData] using h8), List.getElem?_eq_none (by simpa using h8)]
  · rfl

end

/-- Settles O56: the turns by `step_chosen`; a transmission by `txDone_pending` and `txDone_sent`; and the frame of
loopback mode, part by part, by `ownFrame_ident` and its companions. -/
theorem transmissionsAndBusTurns : Obligations.TransmissionsAndBusTurns := by
  refine ⟨fun s named img other rest hl ht => ?frame, fun s n named img other rest hl ht => ?done,
    fun d n named img other => ?transmission⟩
  case frame =>
    rw [step_chosen hl ht]
    simp only [turnStep, deviceTurn]
    split_ifs <;> rfl
  case done =>
    rw [step_chosen hl ht]
    simp only [turnStep, deviceTurn]
    split_ifs <;> rfl
  case transmission =>
    intro base
    have hbase : base = txbBase n := (txbBase_eq n).symm
    clear_value base
    subst hbase
    have completed := And.intro (d.sent_ctrl n) (And.intro (d.sent_flags n) fun a => d.sent_other n (a := a))
    refine ⟨d.txDone_pending n named img other, fun hp hm => ?_, fun hp hm => ?_⟩
    · rw [d.txDone_sent n named img other hp, if_neg hm]
      exact completed
    · rw [d.txDone_sent n named img other hp, if_pos hm]
      obtain ⟨hext, hid⟩ := d.ownFrame_ident n img
      exact ⟨d.sent n, d.ownFrame n img, completed, rfl, hext, hid, d.ownFrame_remote n img,
        d.ownFrame_length n img, d.ownFrame_data n img⟩

end Sys2Proof.Machine
end

section
/-! Reception by the reference device (O55): which filter matches a frame, what a frame that enters a buffer or
is lost changes, and where each frame goes. -/

namespace Sys2Proof.Machine

/-! ### Which filter matches (R74) -/

/-- A bit of an identifier byte agrees with its filter bit, where its mask bit is 1 (R74). -/
def Device.agrees (d : Device) (f : Fin Config.nFilt) (off : Nat) (b : Byte) (k : Nat) : Prop :=
  d.bit (rxmBase (maskOfFilter f) + off) k = true → b.getLsbD k = d.bit (rxfBase f + off) k

/-- R74's addresses as a table. -/
theorem getD_rxfBase (f : Fin Config.nFilt) :
    [0x00, 0x04, 0x08, 0x10, 0x14, 0x18].getD f.val 0 = rxfBase f := by revert f; decide

theorem ite_rxmBase (f : Fin Config.nFilt) : (if f.val < 2 then 0x20 else 0x24) = rxmBase (maskOfFilter f) := by
  revert f; decide

theorem ite_rxbBase (f : Fin Config.nFilt) : (if f.val < 2 then 0x60 else 0x70) = rxbBase (bufferOfFilter f) := by
  revert f; decide

theorem maskedXor_eq_zero_iff (x y mask care : Byte) :
    (x ^^^ y) &&& mask &&& care = 0x00 ↔
      ∀ k, k < 8 → care.getLsbD k = true → mask.getLsbD k = true → x.getLsbD k = y.getLsbD k := by
  constructor
  · intro h k hk hcare hmask
    have hbit := congrArg (BitVec.getLsbD · k) h
    simp only [BitVec.getLsbD_and, BitVec.getLsbD_xor, hcare, hmask, Bool.and_true] at hbit
    simpa using hbit
  · intro h
    apply BitVec.eq_of_getLsbD_eq
    intro k hk
    have hbit := h k hk
    simp only [BitVec.getLsbD_and, BitVec.getLsbD_xor]
    cases hcare : care.getLsbD k
    · simp
    · cases hmask : mask.getLsbD k
      · simp
      · simp [hbit hcare hmask]

/-- `matchesFilter` compares a byte in the bits of `care`. -/
theorem Device.compares_iff (d : Device) (f : Fin Config.nFilt) (off : Nat) (b care : Byte) :
    (((b ^^^ d.read (rxfBase f + off)) &&& d.read (rxmBase (maskOfFilter f) + off) &&& care) != 0x00) = false ↔
      ∀ k, k < 8 → care.getLsbD k = true → d.agrees f off b k := by
  rw [bne_eq_false_iff_eq, maskedXor_eq_zero_iff]
  rfl

theorem all_ones_getLsbD {p : Nat → Prop} :
    (∀ k, k < 8 → (0xFF : Byte).getLsbD k = true → p k) ↔ ∀ k, k < 8 → p k := by
  have hall : ∀ k, k < 8 → (0xFF : Byte).getLsbD k = true := by decide
  exact ⟨fun h k hk => h k hk (hall k hk), fun h k hk _ => h k hk⟩

theorem sidMask_getLsbD {k : Nat} (hk : k < 8) : sidMask.getLsbD k = true ↔ 5 ≤ k := by
  have all : ∀ k, k < 8 → (sidMask.getLsbD k = true ↔ 5 ≤ k) := by decide
  exact all k hk

theorem sidEidMask_getLsbD {k : Nat} (hk : k < 8) : (sidMask ||| eidMask).getLsbD k = true ↔ 5 ≤ k ∨ k < 2 := by
  have all : ∀ k, k < 8 → ((sidMask ||| eidMask).getLsbD k = true ↔ 5 ≤ k ∨ k < 2) := by decide
  exact all k hk

theorem Device.matchesFilter_iff (d : Device) (f : Fin Config.nFilt) (img : IdImage) :
    d.matchesFilter f img = true ↔
      (∀ k, k < 8 → d.agrees f 0 img.sidh k) ∧ (∀ k, k < 8 → 5 ≤ k → d.agrees f 1 img.sidl k) ∧
        (img.sidl.getLsbD 3 = true →
          (∀ k, k < 2 → d.agrees f 1 img.sidl k) ∧ (∀ k, k < 8 → d.agrees f 2 img.eid8 k) ∧
            ∀ k, k < 8 → d.agrees f 3 img.eid0 k) := by
  have hstd : (∀ k, k < 8 → sidMask.getLsbD k = true → d.agrees f 1 img.sidl k) ↔
      ∀ k, k < 8 → 5 ≤ k → d.agrees f 1 img.sidl k :=
    forall₂_congr fun k hk => by rw [sidMask_getLsbD hk]
  have hboth : (∀ k, k < 8 → (sidMask ||| eidMask).getLsbD k = true → d.agrees f 1 img.sidl k) ↔
      (∀ k, k < 8 → 5 ≤ k → d.agrees f 1 img.sidl k) ∧ ∀ k, k < 2 → d.agrees f 1 img.sidl k := by
    constructor
    · intro h
      exact ⟨fun k hk h5 => h k hk ((sidEidMask_getLsbD hk).2 (.inl h5)),
        fun k h2 => h k (by omega) ((sidEidMask_getLsbD (by omega)).2 (.inr h2))⟩
    · intro ⟨hsid, heid⟩ k hk hcare
      exact ((sidEidMask_getLsbD hk).1 hcare).elim (hsid k hk) (heid k)
  unfold Device.matchesFilter
  rw [Config.dev_sidlExt]
  cases hext : img.sidl.getLsbD 3 with
  | false =>
    simp only [Bool.false_eq_true, if_false, Bool.not_eq_true', Bool.or_eq_false_iff, d.compares_iff,
      all_ones_getLsbD, hstd, false_implies, and_true]
  | true =>
    simp only [if_true, Bool.not_eq_true', Bool.or_eq_false_iff, d.compares_iff, all_ones_getLsbD, hboth,
      true_implies, and_assoc]

theorem Device.accepts_eq_matchesFilter (d : Device) (named f : Fin Config.nFilt) (img : IdImage)
    (h : d.read (rxbBase (bufferOfFilter f)) &&& 0x60 = 0x00) : d.accepts named f img = d.matchesFilter f img := by
  have all : ∀ b : Byte, b &&& 0x60 = 0x00 → b.extractLsb' 5 2 = 0 := by decide
  exact if_pos (all _ h)

/-! ### A frame enters a buffer, or is lost (R73) -/

section
variable (d : Device) {a a' : Nat}

theorem Device.storeBurst_contents_other {bs : List Byte}
    (h : ∀ j, j < bs.length → canonAddr (a + j) ≠ canonAddr a') :
    (d.storeBurst a bs).contents a' = d.contents a' := by
  induction bs generalizing d a with
  | nil => rfl
  | cons b bs ih =>
    have hrest (j : Nat) (hj : j < bs.length) : canonAddr (a + 1 + j) ≠ canonAddr a' := by
      rw [Nat.add_right_comm]
      exact h (j + 1) (Nat.succ_lt_succ hj)
    have hfirst : canonAddr a' ≠ canonAddr a := Ne.symm (h 0 (Nat.zero_lt_succ _))
    exact (ih _ hrest).trans (d.contents_store_other b hfirst)

theorem Device.storeBurst_contents {bs : List Byte} {j : Nat} {b : Byte} (hb : bs[j]? = some b)
    (h : ∀ j', j' < bs.length → canonAddr (a + j') = a + j') : (d.storeBurst a bs).contents (a + j) = b := by
  induction bs generalizing d a j with
  | nil => cases hb
  | cons b' bs ih =>
    have hrest (j' : Nat) (hj : j' < bs.length) : canonAddr (a + 1 + j') = a + 1 + j' := by
      rw [Nat.add_right_comm]
      exact h (j' + 1) (Nat.succ_lt_succ hj)
    cases j with
    | zero =>
      cases hb
      have hne (j' : Nat) (hj : j' < bs.length) : canonAddr (a + 1 + j') ≠ canonAddr a := by
        have h0 : canonAddr a = a := h 0 (Nat.zero_lt_succ _)
        rw [hrest j' hj, h0]
        omega
      exact (Device.storeBurst_contents_other _ hne).trans (d.contents_store_same b rfl)
    | succ j =>
      rw [Nat.add_comm j 1, ← Nat.add_assoc]
      exact ih _ hb hrest

end

section
variable (d : Device) (n : Fin Config.nRxBuf) (f : Fin Config.nFilt) (img : BufferImage)

theorem canonAddr_rxb {k : Nat} (hk : k < 14) : canonAddr (rxbBase n + k) = rxbBase n + k := by
  have all : ∀ (n : Fin Config.nRxBuf) (k : Fin 14), canonAddr (rxbBase n + k) = rxbBase n + k := by decide
  exact all n ⟨k, hk⟩

theorem canonAddr_rxbBase : canonAddr (rxbBase n) = rxbBase n := canonAddr_rxb n (k := 0) (by decide)

theorem implBits_rxbImage {k : Nat} (hk : k < 13) :
    implBits (rxbBase n + 1 + k) = if k = 1 then 0xFB else if k = 4 then 0x7F else 0xFF := by
  have all : ∀ (n : Fin Config.nRxBuf) (k : Fin 13),
      implBits (rxbBase n + 1 + k) = if k.val = 1 then 0xFB else if k.val = 4 then 0x7F else 0xFF := by
    decide +kernel
  exact all n ⟨k, hk⟩

theorem implBits_rxbCtrl : implBits (rxbBase n) = 0x6F := by revert n; decide

/-- The device once the image stands in receive buffer n. -/
def Device.withImage (d : Device) (n : Fin Config.nRxBuf) (img : BufferImage) : Device :=
  d.storeBurst (rxbBase n + 1) (imageBytes img)

theorem Device.withImage_other {a : Nat} (h : ∀ k, k < 14 → canonAddr a ≠ rxbBase n + k) :
    (d.withImage n img).contents a = d.contents a :=
  d.storeBurst_contents_other fun j hj => by
    have hj : j < 13 := hj
    rw [Nat.add_assoc, canonAddr_rxb n (k := 1 + j) (by omega)]
    exact Ne.symm (h (1 + j) (by omega))

theorem Device.withImage_ctrl : (d.withImage n img).contents (rxbBase n) = d.contents (rxbBase n) :=
  d.storeBurst_contents_other fun j hj => by
    have hj : j < 13 := hj
    rw [Nat.add_assoc, canonAddr_rxb n (k := 1 + j) (by omega), canonAddr_rxbBase]
    omega

theorem rxif_eq : Config.dev.rxif[n] = n.val := by revert n; decide

theorem canonAddr_rxbBase_ne : canonAddr 0x2C ≠ canonAddr (rxbBase n) := by revert n; decide

theorem Device.fill_eq :
    ∃ ctrl, d.fill n f img = ((d.withImage n img).store (rxbBase n) ctrl).setBit 0x2C n.val := by
  rw [← rxif_eq n]
  exact ⟨_, rfl⟩

/-- FILHIT names the filter that hit, one bit of RXB0CTRL or three of RXB1CTRL (R66). -/
theorem Device.fill_ctrl (hf : n = 0 → f.val < 2) :
    (d.fill n f img).read (rxbBase n) =
      (d.read (rxbBase n) &&& ~~~ (if n = 0 then 0x01 else 0x07)) ||| BitVec.ofNat 8 f.val := by
  have hne : canonAddr (rxbBase n) ≠ canonAddr addrCanintf := (canonAddr_rxbBase_ne n).symm
  have hbits : fieldAt Config.dev.filhit (BitVec.ofNat 8 f.val) &&& (if n = 0 then 0x01 else 0x07) &&& 0x6F =
      BitVec.ofNat 8 f.val := by
    revert n f
    decide
  have hmask : ∀ n : Fin Config.nRxBuf,
      fieldMask Config.dev.filhit (if n = 0 then 1 else 3) = if n = 0 then 0x01 else 0x07 := by decide
  have hfill : (d.fill n f img).read (rxbBase n) =
      mergeBits ((d.withImage n img).contents (rxbBase n)) (fieldAt Config.dev.filhit (BitVec.ofNat 8 f.val))
        (fieldMask Config.dev.filhit (if n = 0 then 1 else 3)) &&& implBits (rxbBase n) :=
    (Device.read_setBit_other _ _ hne).trans (Device.read_store_same ..)
  rw [hfill, d.withImage_ctrl, hmask, Device.read, implBits_rxbCtrl, mergeBits, BitVec.and_or_distrib_right, hbits,
    BitVec.and_assoc, BitVec.and_comm (~~~ _), ← BitVec.and_assoc]

/-- The image as the buffer's registers show it. -/
theorem Device.fill_image {k : Nat} {b : Byte} (hb : (imageBytes img)[k]? = some b) (hk : k < 13) :
    (d.fill n f img).read (rxbBase n + 1 + k) =
      b &&& if k = 1 then 0xFB else if k = 4 then 0x7F else 0xFF := by
  have hcanon : canonAddr (rxbBase n + 1 + k) = rxbBase n + 1 + k := by
    rw [Nat.add_assoc]
    exact canonAddr_rxb n (by omega)
  have hflag : canonAddr (rxbBase n + 1 + k) ≠ canonAddr addrCanintf := by
    have : rxbBase n = 0x60 + 0x10 * n.val := rxbBase_eq n
    rw [hcanon]
    show _ ≠ 0x2C
    omega
  have hctrl : canonAddr (rxbBase n + 1 + k) ≠ canonAddr (rxbBase n) := by
    rw [hcanon, canonAddr_rxbBase]
    omega
  have hcontents : (d.withImage n img).contents (rxbBase n + 1 + k) = b :=
    d.storeBurst_contents hb fun j hj => by
      have hj : j < 13 := hj
      rw [Nat.add_assoc]
      exact canonAddr_rxb n (by omega)
  rw [← implBits_rxbImage n hk, ← hcontents]
  exact (Device.read_setBit_other _ _ hflag).trans (Device.read_store_other _ _ hctrl)

theorem Device.fill_flags {k : Nat} (hk : k < 8) :
    (d.fill n f img).bit 0x2C k = (d.bit 0x2C k || decide (n.val = k)) := by
  have hn : n.val < 2 := n.isLt
  have hbase : canonAddr 0x2C ≠ canonAddr (rxbBase n) := canonAddr_rxbBase_ne n
  have himage : (d.withImage n img).read 0x2C = d.read 0x2C :=
    Device.read_of_contents (d.withImage_other n img fun k hk => by
      rw [rxbBase_eq]
      show 0x2C ≠ _
      omega)
  obtain ⟨ctrl, hfill⟩ := d.fill_eq n f img
  rw [hfill, Device.bit_setBit_same _ (implBits_canintf_getLsbD (by omega)) hk, Device.bit,
    Device.read_store_other _ _ hbase, himage, Device.bit]

theorem Device.fill_other {a : Nat} (hf : canonAddr a ≠ 0x2C) (h : ∀ k, k < 14 → canonAddr a ≠ rxbBase n + k) :
    (d.fill n f img).read a = d.read a := by
  have hbase : canonAddr a ≠ canonAddr (rxbBase n) := by
    rw [canonAddr_rxbBase]
    exact h 0 (by omega)
  have himage : (d.withImage n img).read a = d.read a := Device.read_of_contents (d.withImage_other n img h)
  exact ((Device.read_setBit_other _ _ (by exact hf)).trans (Device.read_store_other _ _ hbase)).trans himage

theorem Device.overflow_flags :
    (d.overflow n).read 0x2D = d.read 0x2D ||| BitVec.twoPow 8 (6 + n.val) := by
  have hflag : Config.dev.rxovr[n] = 6 + n.val := by revert n; decide
  have himpl : (implBits addrEflg).getLsbD Config.dev.rxovr[n] = true := by revert n; decide
  have hread := d.read_setBit_same himpl
  rw [hflag] at hread
  rw [Device.overflow, hflag]
  exact hread

theorem Device.overflow_other {a : Nat} (h : canonAddr a ≠ 0x2D) : (d.overflow n).read a = d.read a :=
  d.read_setBit_other _ h

end

/-- The frame has entered receive buffer n by the filter f, and nothing else has changed (R66, R73). -/
def Device.Filled (d t : Device) (n : Nat) (f : Fin Config.nFilt) (img : BufferImage) : Prop :=
  t.bit 0x2C n = true ∧
    t.readBurst (0x61 + 0x10 * n) 13 =
      [img.ident.sidh, img.ident.sidl &&& 0xFB, img.ident.eid8, img.ident.eid0, img.dlc &&& 0x7F,
        img.d0, img.d1, img.d2, img.d3, img.d4, img.d5, img.d6, img.d7] ∧
    (n = 0 → t.read 0x60 = (d.read 0x60 &&& 0xFE) ||| BitVec.ofNat 8 f.val) ∧
    (n = 1 → t.read 0x70 = (d.read 0x70 &&& 0xF8) ||| BitVec.ofNat 8 f.val) ∧
    (∀ k, k < 8 → k ≠ n → t.bit 0x2C k = d.bit 0x2C k) ∧
    ∀ a, canonAddr a ≠ 0x2C → (∀ k, k < 14 → canonAddr a ≠ 0x60 + 0x10 * n + k) → t.read a = d.read a

/-- A frame is lost: the overflow flag of receive buffer n, and nothing else (R73). -/
def Device.Lost (d t : Device) (n : Nat) : Prop :=
  t.read 0x2D = d.read 0x2D ||| BitVec.twoPow 8 (6 + n) ∧ ∀ a, canonAddr a ≠ 0x2D → t.read a = d.read a

section
variable {d t t' : Device} {n : Nat} {f : Fin Config.nFilt} {img : BufferImage}

theorem Device.Filled.of_eq (h : d.Filled t' n f img) (ht : t = t') : d.Filled t n f img := ht ▸ h

theorem Device.Lost.of_eq (h : d.Lost t' n) (ht : t = t') : d.Lost t n := ht ▸ h

end

section
variable (d : Device) {n : Fin Config.nRxBuf} {f : Fin Config.nFilt} {named : Fin Config.nFilt}

theorem Device.readBurst_getElem? (d : Device) (a : Nat) {n k : Nat} (hk : k < n) :
    (d.readBurst a n)[k]? = some (d.read (a + k)) := by
  induction n generalizing a k with
  | zero => cases hk
  | succ n ih =>
    cases k with
    | zero => rfl
    | succ k =>
      rw [Device.readBurst, List.getElem?_cons_succ, ih (a + 1) (Nat.lt_of_succ_lt_succ hk), Nat.add_assoc,
        Nat.add_comm 1 k]

theorem Device.fill_readBurst (n : Fin Config.nRxBuf) (f : Fin Config.nFilt) (img : BufferImage) :
    (d.fill n f img).readBurst (rxbBase n + 1) 13 =
      [img.ident.sidh, img.ident.sidl &&& 0xFB, img.ident.eid8, img.ident.eid0, img.dlc &&& 0x7F,
        img.d0, img.d1, img.d2, img.d3, img.d4, img.d5, img.d6, img.d7] := by
  have hmasked : [img.ident.sidh, img.ident.sidl &&& 0xFB, img.ident.eid8, img.ident.eid0, img.dlc &&& 0x7F,
      img.d0, img.d1, img.d2, img.d3, img.d4, img.d5, img.d6, img.d7] =
      [img.ident.sidh &&& 0xFF, img.ident.sidl &&& 0xFB, img.ident.eid8 &&& 0xFF, img.ident.eid0 &&& 0xFF,
        img.dlc &&& 0x7F, img.d0 &&& 0xFF, img.d1 &&& 0xFF, img.d2 &&& 0xFF, img.d3 &&& 0xFF, img.d4 &&& 0xFF,
        img.d5 &&& 0xFF, img.d6 &&& 0xFF, img.d7 &&& 0xFF] := by
    simp [Byte.and_ones]
  rw [hmasked]
  apply List.ext_getElem?
  intro k
  by_cases hk : k < 13
  · rw [Device.readBurst_getElem? _ _ hk]
    have hread {b : Byte} (hb : (imageBytes img)[k]? = some b) := d.fill_image n f img hb hk
    interval_cases k <;> exact congrArg some (hread rfl)
  · rw [List.getElem?_eq_none (by simpa using hk), List.getElem?_eq_none (by simpa using hk)]

theorem Device.fill_filled (hf : n = 0 → f.val < 2) (img : BufferImage) :
    d.Filled (d.fill n f img) n.val f img := by
  have hbase : 0x60 + 0x10 * n.val = rxbBase n := (rxbBase_eq n).symm
  refine ⟨?_, ?_, fun h => ?_, fun h => ?_, fun k hk hne => ?_, fun a hflag h => ?_⟩
  · rw [d.fill_flags n f img (Nat.lt_trans n.isLt (by decide))]
    simp
  · have := d.fill_readBurst n f img
    rwa [rxbBase_eq, Nat.add_right_comm] at this
  · have hn : n = 0 := Fin.ext h
    subst hn
    exact d.fill_ctrl 0 f img hf
  · have hn : n = 1 := Fin.ext h
    subst hn
    exact d.fill_ctrl 1 f img hf
  · rw [d.fill_flags n f img hk]
    simp [hne.symm]
  · rw [hbase] at h
    exact d.fill_other n f img hflag h

theorem Device.overflow_lost (n : Fin Config.nRxBuf) : d.Lost (d.overflow n) n.val :=
  ⟨d.overflow_flags n, fun _ => d.overflow_other n⟩

/-! ### Which filter a frame hits -/

/-- A filter of receive buffer n accepts the frame (R74). -/
def Device.AcceptedFor (d : Device) (named : Fin Config.nFilt) (img : IdImage) (n : Nat) (f : Fin Config.nFilt) :
    Prop :=
  (f.val < 2 ↔ n = 0) ∧ d.accepts named f img = true

theorem bufferOfFilter_eq_iff (f : Fin Config.nFilt) (n : Fin Config.nRxBuf) :
    bufferOfFilter f = n ↔ (f.val < 2 ↔ n.val = 0) := by revert f n; decide

theorem Device.hit_acceptedFor {img : IdImage} (h : d.hit n named img = some f) :
    d.AcceptedFor named img n.val f := by
  obtain ⟨hbuf, hacc⟩ := Device.hit_accepts h
  exact ⟨(bufferOfFilter_eq_iff f n).1 hbuf, hacc⟩

theorem Device.hit_of_acceptedFor {img : IdImage} (h : d.AcceptedFor named img n.val f) :
    ∃ g, d.hit n named img = some g := by
  obtain ⟨hbuf, hacc⟩ := h
  have hmem : f ∈ (List.finRange Config.nFilt).filter fun f => bufferOfFilter f == n && d.accepts named f img := by
    simp [(bufferOfFilter_eq_iff f n).2 hbuf, hacc]
  unfold Device.hit
  dsimp only
  split
  · exact ⟨named, rfl⟩
  · cases hl : (List.finRange Config.nFilt).filter fun f => bufferOfFilter f == n && d.accepts named f img with
    | nil => rw [hl] at hmem; cases hmem
    | cons g l => exact ⟨g, rfl⟩

theorem Device.hit_none {img : IdImage} (h : ¬ ∃ f, d.AcceptedFor named img n.val f) :
    d.hit n named img = none := by
  cases hh : d.hit n named img with
  | none => rfl
  | some f => exact absurd ⟨f, d.hit_acceptedFor hh⟩ h

theorem Device.hit_some {img : IdImage} (h : ∃ f, d.AcceptedFor named img n.val f) :
    ∃ f, d.AcceptedFor named img n.val f ∧ d.hit n named img = some f := by
  obtain ⟨f, hf⟩ := h
  obtain ⟨g, hg⟩ := d.hit_of_acceptedFor hf
  exact ⟨g, d.hit_acceptedFor hg, hg⟩

end

/-! ### Where a frame goes (R73, R287) -/

section
variable {d : Device} {named f g : Fin Config.nFilt} {img : BufferImage} {other : Bool}

theorem Device.intoRxb1_empty (h : d.bit 0x2C 1 = false) : d.intoRxb1 g img = d.fill 1 g img := by
  rw [Device.intoRxb1, if_neg (ne_true_of_eq_false ((d.full_eq 1).trans h))]

theorem Device.intoRxb1_full (h : d.bit 0x2C 1 = true) : d.intoRxb1 g img = d.overflow 1 := by
  rw [Device.intoRxb1, if_pos ((d.full_eq 1).trans h)]

theorem Device.receive_unaccepted (h0 : d.hit 0 named img.ident = none) (h1 : d.hit 1 named img.ident = none) :
    d.receive named img other = d := by
  simp only [Device.receive, h0, h1]

theorem Device.receive_rxb1 (h0 : d.hit 0 named img.ident = none) (h1 : d.hit 1 named img.ident = some g) :
    d.receive named img other = d.intoRxb1 g img := by
  simp only [Device.receive, h0, h1]

theorem Device.receive_rxb0 (h0 : d.hit 0 named img.ident = some f) (hempty : d.bit 0x2C 0 = false) :
    d.receive named img other = d.fill 0 f img := by
  have hempty : d.full 0 = false := (d.full_eq 0).trans hempty
  simp [Device.receive, h0, hempty]

/-- With rollover on and RXB0 full, the frame goes to RXB1 if that is empty. -/
theorem Device.receive_rollover (h0 : d.hit 0 named img.ident = some f) (hfull : d.bit 0x2C 0 = true)
    (hroll : d.bit 0x60 2 = true) (hempty : d.bit 0x2C 1 = false) :
    d.receive named img other = d.fill 1 f img := by
  have hfull : d.full 0 = true := (d.full_eq 0).trans hfull
  have hempty : d.full 1 = false := (d.full_eq 1).trans hempty
  have hroll : d.rollover = true := hroll
  simp [Device.receive, h0, hfull, hroll, hempty]

theorem Device.receive_bothFull (h0 : d.hit 0 named img.ident = some f) (hfull : d.bit 0x2C 0 = true)
    (hroll : d.bit 0x60 2 = true) (hfull1 : d.bit 0x2C 1 = true) :
    d.receive named img other = d.overflow (if other then 1 else 0) := by
  have hfull : d.full 0 = true := (d.full_eq 0).trans hfull
  have hfull1 : d.full 1 = true := (d.full_eq 1).trans hfull1
  have hroll : d.rollover = true := hroll
  simp [Device.receive, h0, hfull, hroll, hfull1]

/-- With rollover off and RXB0 full, the frame is lost, or enters RXB1 by a filter of that buffer (log 16). -/
theorem Device.receive_noRollover (h0 : d.hit 0 named img.ident = some f) (hfull : d.bit 0x2C 0 = true)
    (hroll : d.bit 0x60 2 = false) :
    d.receive named img other = d.overflow 0 ∨
      ∃ g, d.hit 1 named img.ident = some g ∧ d.receive named img other = d.intoRxb1 g img := by
  have hfull : d.full 0 = true := (d.full_eq 0).trans hfull
  have hroll : d.rollover = false := hroll
  cases h1 : d.hit 1 named img.ident with
  | none => exact .inl (by simp [Device.receive, h0, h1, hfull, hroll])
  | some g =>
    cases other with
    | false => exact .inl (by simp [Device.receive, h0, h1, hfull, hroll])
    | true => exact .inr ⟨g, rfl, by simp [Device.receive, h0, h1, hfull, hroll]⟩

end

/-- Settles O55: matching by `matchesFilter_iff`; where a frame goes by the filters it hits (`hit_some`, `hit_none`),
case by case of `receive`, and what it leaves there by `fill_filled` and `overflow_lost`. -/
theorem referenceBusSide : Obligations.ReferenceBusSide := by
  intro d named img other
  have hit0 (h : ∃ f, d.AcceptedFor named img.ident 0 f) := d.hit_some (n := 0) h
  have hit1 (h : ∃ f, d.AcceptedFor named img.ident 1 f) := d.hit_some (n := 1) h
  have none0 (h : ¬ ∃ f, d.AcceptedFor named img.ident 0 f) := d.hit_none (n := 0) h
  have none1 (h : ¬ ∃ f, d.AcceptedFor named img.ident 1 f) := d.hit_none (n := 1) h
  have filled1 (f : Fin Config.nFilt) : d.Filled (d.fill 1 f img) 1 f img := d.fill_filled (n := 1) nofun img
  refine ⟨fun f g => ?filters, fun h0 h1 => Device.receive_unaccepted (none0 h0) (none1 h1),
    fun h0 hempty => ?rxb0, fun h0 hfull hroll hempty => ?rollover, fun h0 hfull hroll hfull1 => ?bothFull,
    fun h0 h1 hfull hroll => ?only0, fun h0 h1 hfull hroll => ?both, fun h0 h1 hempty => ?rxb1,
    fun h0 h1 hfull => ?rxb1Full⟩
  case filters =>
    intro filter mask agree
    have hfilter : filter = rxfBase f := getD_rxfBase f
    have hmask : mask = rxmBase (maskOfFilter f) := ite_rxmBase f
    clear_value filter mask
    subst hfilter hmask
    rw [ite_rxbBase]
    exact ⟨d.matchesFilter_iff f g, d.accepts_eq_matchesFilter named f g⟩
  case rxb0 =>
    obtain ⟨f, ⟨hown, hacc⟩, hhit⟩ := hit0 h0
    exact ⟨f, ⟨hown, hacc⟩, (d.fill_filled (n := 0) (fun _ => hown.2 rfl) img).of_eq
      (Device.receive_rxb0 hhit hempty)⟩
  case rollover =>
    obtain ⟨f, hf, hhit⟩ := hit0 h0
    exact ⟨f, hf, (filled1 f).of_eq (Device.receive_rollover hhit hfull hroll hempty)⟩
  case bothFull =>
    obtain ⟨f, -, hhit⟩ := hit0 h0
    have heq := Device.receive_bothFull (other := other) hhit hfull hroll hfull1
    cases other with
    | false => exact .inl ((d.overflow_lost 0).of_eq heq)
    | true => exact .inr ((d.overflow_lost 1).of_eq heq)
  case only0 =>
    obtain ⟨f, -, hhit⟩ := hit0 h0
    obtain heq | ⟨g, hg, -⟩ := Device.receive_noRollover (other := other) hhit hfull hroll
    · exact (d.overflow_lost 0).of_eq heq
    · cases hg.symm.trans (none1 h1)
  case both =>
    obtain ⟨f, -, hhit⟩ := hit0 h0
    obtain heq | ⟨g, hg, heq⟩ := Device.receive_noRollover (other := other) hhit hfull hroll
    · exact .inl ((d.overflow_lost 0).of_eq heq)
    · cases h : d.bit 0x2C 1 with
      | false =>
        exact .inr (.inl ⟨rfl, g, d.hit_acceptedFor hg, (filled1 g).of_eq (heq.trans (Device.intoRxb1_empty h))⟩)
      | true => exact .inr (.inr ⟨rfl, (d.overflow_lost 1).of_eq (heq.trans (Device.intoRxb1_full h))⟩)
  case rxb1 =>
    obtain ⟨g, hg, hhit⟩ := hit1 h1
    have heq := Device.receive_rxb1 (other := other) (none0 h0) hhit
    exact ⟨g, hg, (filled1 g).of_eq (heq.trans (Device.intoRxb1_empty hempty))⟩
  case rxb1Full =>
    obtain ⟨g, -, hhit⟩ := hit1 h1
    have heq := Device.receive_rxb1 (other := other) (none0 h0) hhit
    exact (d.overflow_lost 1).of_eq (heq.trans (Device.intoRxb1_full hfull))


end Sys2Proof.Machine
end

section
/-! Encoding and decoding: each decoder inverts the encoder and the other way round (O58, O59), words and opcode bytes
of R90 and R92 one by one (O60, O13), and so every transaction of SEQ is a frame of R92 that the block may send
(O10). -/

namespace Sys2Proof

/-! ### First bytes of an SPI frame (R92) -/

/-- R92's rows do not overlap. -/
theorem SpiOp.ofByte_of_match {o : SpiOp} {b : Byte} (h : b &&& o.mask = o.byte) : SpiOp.ofByte b = some o := by
  revert b
  cases o <;> decide +kernel

theorem SpiOp.match_of_ofByte {o : SpiOp} {b : Byte} (h : SpiOp.ofByte b = some o) : b &&& o.mask = o.byte := by
  simpa using List.find?_some h

theorem SpiOp.ofByte_loadTxByte (abc : BitVec 3) : SpiOp.ofByte (loadTxByte abc) = some .loadTx :=
  SpiOp.ofByte_of_match (Laws.loadTxByte_fixed abc)

theorem SpiOp.ofByte_rtsByte (t : BitVec 3) : SpiOp.ofByte (rtsByte t) = some .rts :=
  SpiOp.ofByte_of_match (Laws.rtsByte_fixed t)

/-- A row with no field bits has one byte. -/
theorem SpiOp.eq_byte {o : SpiOp} {b : Byte} (hm : o.mask = 0xFF) (h : SpiOp.ofByte b = some o) : b = o.byte := by
  rw [← SpiOp.match_of_ofByte h, hm]
  exact BitVec.and_allOnes.symm

theorem loadTxByte_field (abc : BitVec 3) : (loadTxByte abc).extractLsb' Config.dev.loadTxAbc 3 = abc := by
  revert abc; decide

theorem rtsByte_field (t : BitVec 3) : (rtsByte t).extractLsb' Config.dev.rtsT 3 = t := by
  revert t; decide

theorem readRxByte_of_match {b : Byte} (h : SpiOp.ofByte b = some .readRx) :
    readRxByte (b.getLsbD Config.dev.readRxN) (b.getLsbD Config.dev.readRxM) = b := by
  replace h := SpiOp.match_of_ofByte h
  revert b; decide +kernel

theorem loadTxByte_of_match {b : Byte} (h : SpiOp.ofByte b = some .loadTx) :
    loadTxByte (b.extractLsb' Config.dev.loadTxAbc 3) = b := by
  replace h := SpiOp.match_of_ofByte h
  revert b; decide +kernel

theorem rtsByte_of_match {b : Byte} (h : SpiOp.ofByte b = some .rts) :
    rtsByte (b.extractLsb' Config.dev.rtsT 3) = b := by
  replace h := SpiOp.match_of_ofByte h
  revert b; decide +kernel

theorem dummies_of_allDummy {ds : List Byte} (h : allDummy ds = true) : dummies ds.length = ds := by
  have hall : ∀ b ∈ ds, b = Config.spiDummy := by simpa [allDummy] using h
  exact (List.eq_replicate_of_mem hall).symm

/-! ### Decoding an encoding -/

open Machine

theorem encode_spi {i : Instr} (h : isHostOp i = false) : encode i = .spi (frameOf i) := by
  unfold frameOf
  cases he : encode i with
  | host c => exact absurd ((isHostOp_iff i).mpr ⟨c, he⟩) (by simp [h])
  | spi frame => rfl

/-- A frame of R92 decodes to its instruction (R93 to R96). -/
theorem decodeSpi_frameOf {i : Instr} (h : isHostOp i = false) (hw : i.wf = true) :
    decodeSpi (frameOf i) = .ok i := by
  cases i with
  | spiRead a n => exact decodeSpi_frameOf_read a n
  | spiReadRxBuffer n m count => exact decodeSpi_frameOf_readRx n m count
  | spiLoadTxBuffer abc data =>
    show decodeSpi (loadTxByte abc :: data) = _
    simp only [decodeSpi, SpiOp.ofByte_loadTxByte, spiInstrOf, loadTxByte_field, hw, if_true]
  | spiRts t =>
    show decodeSpi [rtsByte t] = _
    simp only [decodeSpi, SpiOp.ofByte_rtsByte, spiInstrOf, rtsByte_field, hw, if_true]
  | spiInstrReset | spiWrite | spiReadStatus | spiRxStatus | spiBitModify => rfl
  | _ => cases h

/-- Settles O58: a host operation by `decodeHost_of_encode`, an SPI instruction by `decodeSpi_frameOf`. -/
theorem decodeInvertsEncode : Obligations.DecodeInvertsEncode := by
  intro i h
  cases hi : isHostOp i with
  | true =>
    obtain ⟨c, hc⟩ := (isHostOp_iff i).mp hi
    rw [hc]
    exact decodeHost_of_encode hc
  | false =>
    rw [encode_spi hi]
    exact decodeSpi_frameOf hi (h.resolve_left (by simp [hi]))

/-! ### Encoding what was decoded -/

/-- R92 read backwards: a row, a byte of it and the bytes after it are the frame of the instruction they stand for. -/
theorem encode_of_spiInstrOf {o : SpiOp} {b : Byte} {rest : List Byte} {i : Instr}
    (ho : SpiOp.ofByte b = some o) (h : spiInstrOf o b rest = some i) : encode i = .spi (b :: rest) := by
  cases o with
  | reset =>
    cases rest <;> cases h
    rw [SpiOp.eq_byte rfl ho]
    rfl
  | rts =>
    cases rest <;> cases h
    rw [encode, rtsByte_of_match ho]
  | read =>
    cases rest with
    | nil => cases h
    | cons addr ds =>
      simp only [spiInstrOf, Option.ite_none_right_eq_some] at h
      obtain ⟨hds, hi⟩ := h
      cases hi
      rw [encode, dummies_of_allDummy hds, SpiOp.eq_byte rfl ho]
      rfl
  | readRx =>
    simp only [spiInstrOf, Option.ite_none_right_eq_some] at h
    obtain ⟨hds, hi⟩ := h
    cases hi
    rw [encode, dummies_of_allDummy hds, readRxByte_of_match ho]
    rfl
  | write =>
    cases rest <;> cases h
    rw [SpiOp.eq_byte rfl ho]
    rfl
  | loadTx =>
    cases h
    rw [encode, loadTxByte_of_match ho]
    rfl
  | readStatus | rxStatus =>
    simp only [spiInstrOf, Option.ite_none_right_eq_some] at h
    obtain ⟨hds, hi⟩ := h
    cases hi
    rw [hds, SpiOp.eq_byte rfl ho]
    rfl
  | bitModify =>
    rcases rest with _ | ⟨addr, _ | ⟨mask, _ | ⟨data, _ | _⟩⟩⟩ <;> cases h
    rw [SpiOp.eq_byte rfl ho]
    rfl

/-- Settles O59: a command by `encode_of_decodeHost`, a frame by `decodeSpi_ok` and `encode_of_spiInstrOf`. -/
theorem encodeInvertsDecode : Obligations.EncodeInvertsDecode := by
  intro e i h
  cases e with
  | host c => exact ⟨encode_of_decodeHost h, fun hi => absurd (isHostOp_of_decodeHost h) (by simp [hi])⟩
  | spi frame =>
    obtain ⟨b, rest, o, rfl, ho, hi, hw⟩ := decodeSpi_ok h
    exact ⟨encode_of_spiInstrOf ho hi, fun _ => hw⟩

/-- Settles O60: a byte that matches two rows selects both (`SpiOp.ofByte_of_match`); the words are evaluated. -/
theorem wordsDecode : Obligations.WordsDecode := by
  refine ⟨fun o p b ho hp => ?_, by decide, by decide, by decide, by decide, by decide, by decide, by decide,
    by decide, by decide, by decide⟩
  exact Option.some.inj ((SpiOp.ofByte_of_match ho).symm.trans (SpiOp.ofByte_of_match hp))

/-! ### Illegal opcodes -/

/-- R91: the bytes that R90's table leaves out. -/
theorem Opcode.ofByte_none_iff (b : Byte) :
    Opcode.ofByte b = none ↔
      b = 0x00 ∨ (0x02 ≤ b ∧ b ≤ 0x0F) ∨ (0x16 ≤ b ∧ b ≤ 0x1F) ∨ (0x24 ≤ b ∧ b ≤ 0x2F) ∨
        (0x39 ≤ b ∧ b ≤ 0x3F) ∨ 0x46 ≤ b := by
  revert b; decide +kernel

theorem decodeHost_illegal {c : Command} (h : Opcode.ofByte c.opcode = none) :
    decodeHost c = .error (.illegalOpcode c.opcode) := by
  simp [decodeHost, h]

/-- A SEQ step of a BUSY block whose opcode is illegal raises IllegalCommand (R91), which is not fatal (R250). -/
theorem seqStep_illegal {s : State} {c : Command} (hb : s.seqState = .busy) (hop : s.op = some c)
    (hc : Opcode.ofByte c.opcode = none) :
    seqStep s = .next (afterError (.illegal c.opcode) .illegalCommand c.opcode s) := by
  have hraise : seqStep s = .next (raiseError (.illegal c.opcode) .illegalCommand c.opcode s) := by
    simp [seqStep, hb, busyStep, hop, decodeHost_illegal hc]
  exact hraise

/-- Settles O13: the table by `Opcode.ofByte_none_iff`, the step by `step_chosen` and `seqStep_illegal`. -/
theorem illegalOpcodes : Obligations.IllegalOpcodes :=
  ⟨Opcode.ofByte_none_iff, fun s _ rest hb ⟨hl, ht⟩ hop hc =>
    (step_chosen hl ht).trans (seqStep_illegal (s := turnTaken rest s) hb hop hc)⟩

end Sys2Proof

namespace Sys2Proof.Machine

/-! ### Frames that the block may send -/

/-- An instruction of R92 in a frame that the block may send. -/
def SendableFrame (tx : List Byte) : Prop := ∃ i, decode (.spi tx) = .ok i ∧ blockFrame i = true

/-- A frame that the block may send is in the decoder's domain. -/
theorem blockFrame_domain {i : Instr} (h : blockFrame i = true) : isHostOp i = false ∧ i.wf = true := by
  cases i with
  | spiLoadTxBuffer abc data =>
    obtain ⟨habc, -⟩ := Bool.and_eq_true_iff.mp h
    exact ⟨rfl, habc⟩
  | spiInstrReset | spiRead | spiReadRxBuffer | spiWrite | spiRts | spiReadStatus | spiRxStatus | spiBitModify =>
    exact ⟨rfl, rfl⟩
  | _ => cases h

theorem sendableFrame {i : Instr} (h : blockFrame i = true) : SendableFrame (frameOf i) := by
  obtain ⟨hi, hw⟩ := blockFrame_domain h
  exact ⟨i, decodeSpi_frameOf hi hw, h⟩

/-! The operand checks refuse what lies outside R56's and R102's domains, and let through only what lies in them. -/

theorem badBurst_iff (addr : Byte) (n : Nat) :
    badBurst addr n = true ↔ 0x7F < addr.toNat ∨ n = 0 ∨ 16 < n ∨ 0x80 < addr.toNat + n := by
  have hmax : Config.maxBurst = 16 := rfl
  simp only [badBurst, Bool.or_eq_true, decide_eq_true_eq]
  omega

theorem badRts_iff (t : Byte) : badRts t = true ↔ t.toNat = 0 ∨ 7 < t.toNat := by simp [badRts]

theorem badLoadTx_iff (sel : Byte) (n : Nat) :
    badLoadTx sel n = true ↔ 5 < sel.toNat ∨ n = 0 ∨ (if sel.getLsbD 0 then 8 else 13) < n := by
  unfold badLoadTx
  cases sel.getLsbD 0 <;> simp [or_assoc]

theorem badReadRx_iff (sel : Byte) (n : Nat) :
    badReadRx sel n = true ↔ 3 < sel.toNat ∨ n = 0 ∨ (if sel.getLsbD 0 then 8 else 13) < n := by
  unfold badReadRx
  cases sel.getLsbD 0 <;> simp [or_assoc]

theorem burstOk_of_checked {addr : Byte} {n : Nat} (h : ¬ badBurst addr n = true) : burstOk addr n = true := by
  rw [badBurst_iff] at h
  have hmax : Config.maxBurst = 16 := rfl
  simp only [burstOk, Bool.and_eq_true, decide_eq_true_eq]
  omega

theorem bufferBurstOk_of_checked {fromData : Bool} {n : Nat} (hn : n ≠ 0)
    (hlen : ¬ (if fromData then 8 else 13) < n) : bufferBurstOk fromData n = true := by
  rw [bufferBurstOk, Bool.and_eq_true, decide_eq_true_eq, decide_eq_true_eq]
  exact ⟨Nat.pos_of_ne_zero hn, Nat.le_of_not_lt hlen⟩

theorem addr_of_checked {addr : Byte} (h : ¬ badAddr addr = true) : addr.toNat ≤ 0x7F := by
  simpa [badAddr] using h

theorem rts_of_checked {t : Byte} (h : ¬ badRts t = true) : t.setWidth 3 ≠ 0 := by
  revert t; decide

/-- The abc field holds all of an accepted `sel` (R93, R128). -/
theorem loadTx_of_checked {sel : Byte} {n : Nat} (h : ¬ badLoadTx sel n = true) :
    (sel.setWidth 3).toNat ≤ 5 ∧ bufferBurstOk ((sel.setWidth 3).getLsbD 0) n = true := by
  rw [badLoadTx_iff, not_or, not_or] at h
  obtain ⟨hsel, hn, hlen⟩ := h
  have hbit : (sel.setWidth 3).getLsbD 0 = sel.getLsbD 0 := by simp
  refine ⟨?_, hbit ▸ bufferBurstOk_of_checked hn hlen⟩
  rw [BitVec.toNat_setWidth]
  omega

theorem readRx_of_checked {sel : Byte} {n : Nat} (h : ¬ badReadRx sel n = true) :
    bufferBurstOk (sel.getLsbD 0) n = true := by
  rw [badReadRx_iff, not_or, not_or] at h
  obtain ⟨-, hn, hlen⟩ := h
  exact bufferBurstOk_of_checked hn hlen

/-! The frames of the composite operations. -/

theorem modeWriteFrame_sendable (m : Mode) : SendableFrame (modeWriteFrame m) :=
  sendableFrame (i := .spiBitModify Config.dev.canctrl modeMask (modeBits m)) rfl

theorem modePollFrame_sendable : SendableFrame modePollFrame :=
  sendableFrame (i := .spiRead Config.dev.canstat 1) rfl

theorem initFrame_sendable {k : Nat} {frame : List Byte} (h : initFrame k = some frame) : SendableFrame frame := by
  unfold initFrame at h
  split at h <;> cases h
  · exact sendableFrame (i := .spiWrite Config.dev.txb[0] [0x00]) rfl
  · exact sendableFrame (i := .spiWrite Config.dev.txb[1] [0x00]) rfl
  · exact sendableFrame (i := .spiWrite Config.dev.txb[2] [0x00]) rfl
  · exact sendableFrame (i := .spiWrite Config.dev.rxb[0] [0x00]) rfl
  · exact sendableFrame (i := .spiWrite Config.dev.rxb[1] [0x00]) rfl
  · exact sendableFrame (i := .spiWrite Config.dev.caninte [rxInterrupts]) rfl
  · exact sendableFrame
      (i := .spiBitModify Config.dev.rxb[0] (bitMask Config.dev.bukt) (bitMask Config.dev.bukt)) rfl

/-- SEND's load is 5 to 13 bytes from a TXBnSIDH (R164). -/
theorem sendLoadFrame_sendable {f : CanFrame} (hf : f.wf = true) (n : Fin Config.nTxBuf) :
    SendableFrame ([SpiOp.byte .write, txbSidhByte n] ++ encFrameBytes f) := by
  have haddr : (txbSidhByte n).toNat + 16 ≤ 0x80 := by revert n; decide
  have hdata : f.data.length ≤ 8 := by
    obtain ⟨hlen, -⟩ := Bool.and_eq_true_iff.mp hf
    exact of_decide_eq_true hlen
  have hlen : (encFrameBytes f).length = 5 + f.data.length := by simp [encFrameBytes, idBytes]; omega
  refine sendableFrame (i := .spiWrite (txbSidhByte n) (encFrameBytes f)) ?_
  simp only [blockFrame, burstOk, Config.maxBurst, hlen, Bool.and_eq_true, decide_eq_true_eq]
  omega

theorem sendRequest_sendable (n : Fin Config.nTxBuf) : SendableFrame [rtsByte (BitVec.twoPow 3 n.val)] :=
  sendableFrame (i := .spiRts (BitVec.twoPow 3 n.val)) (by revert n; decide)

theorem pollFrame_sendable (n : Fin Config.nRxBuf) : SendableFrame (pollFrame n) :=
  sendableFrame (i := .spiReadRxBuffer (n == 1) false 13) rfl

theorem maskFrame_sendable (fs : FilterSet) : SendableFrame (maskFrame fs) := by
  cases fs with
  | empty => exact sendableFrame (i := .spiWrite Config.dev.rxm[0] (List.replicate 8 0x00)) rfl
  | full r => exact sendableFrame (i := .spiWrite Config.dev.rxm[0] (specBytes r.mask0 ++ specBytes r.mask1)) rfl

theorem filterFrameLow_sendable (r : FilterRecord) : SendableFrame (filterFrameLow r) :=
  sendableFrame
    (i := .spiWrite Config.dev.rxf[0] (specBytes r.filt0 ++ specBytes r.filt1 ++ specBytes r.filt2)) rfl

theorem filterFrameHigh_sendable (r : FilterRecord) : SendableFrame (filterFrameHigh r) :=
  sendableFrame
    (i := .spiWrite Config.dev.rxf[3] (specBytes r.filt3 ++ specBytes r.filt4 ++ specBytes r.filt5)) rfl

/-! ### What a rule sends -/

/-- The history grew from `old` by events whose transactions are sendable frames. -/
def SendsFrames (old : List Event) (t : State) : Prop :=
  ∃ es, t.history = old ++ es ∧ ∀ tx rx, Event.spi tx rx ∈ es → SendableFrame tx

/-- An outcome is no next state, or one before which only sendable frames were sent. -/
def OnlySends (old : List Event) (o : Host.Outcome State Fault Refusal) : Prop :=
  ∀ t, o = .next t → SendsFrames old t

section
variable {i : Instr} {s s' t : State} {old : List Event}

theorem sendsFrames_of_same (h : t.history = old) : SendsFrames old t := ⟨[], by simp [h], nofun⟩

theorem sendsFrames_of_done {o : Operation} {r : OpResult} (h : t.history = old ++ [.done o r]) :
    SendsFrames old t :=
  ⟨_, h, by simp⟩

theorem seqXfer_sends {tx : List Byte} {p : Point} (h : SendableFrame tx) (hs : s'.history = old) :
    SendsFrames old (seqXfer tx p s') := by
  refine ⟨[.spi tx (deviceXfer tx s'.dev s'.env).rx], by rw [seqXfer_history, hs], fun tx' rx hmem => ?_⟩
  cases List.mem_singleton.mp hmem
  exact h

theorem seqEmit_sends (l : List Byte) (p : Point) (s : State) : SendsFrames s.history (seqEmit l p s) :=
  ⟨[.uartTx l], rfl, by simp⟩

theorem finishOk_sends {v : Value} (hs : s'.history = old) : SendsFrames old (finishOk i v s') :=
  sendsFrames_of_done (by rw [finishOk, finish_history, hs])

theorem raiseError_sends {o : Operation} {e : ErrorCode} {info : Byte} (hs : s'.history = old) :
    SendsFrames old (raiseError o e info s') := by
  obtain ⟨-, h⟩ | ⟨-, h⟩ := raiseError_cases o e info s'
  · exact sendsFrames_of_done (by rw [h, enterFault_history, hs])
  · exact sendsFrames_of_done (by rw [h, finish_history, hs])

theorem raiseOp_sends {e : ErrorCode} {info : Byte} (hs : s'.history = old) :
    SendsFrames old (raiseOp i e info s') := raiseError_sends hs

theorem modeAttempt_sends (m : Mode) (c : ModeCall) (a : Nat) (hs : s'.history = old) :
    SendsFrames old (modeAttempt m c a s') := seqXfer_sends (modeWriteFrame_sendable m) hs

theorem modePoll_sends (c : ModeCall) (hs : s'.history = old) : SendsFrames old (modePoll c s') :=
  seqXfer_sends modePollFrame_sendable hs

theorem sendsFrames_ite {a b : State} {c : Prop} [Decidable c] (ha : c → SendsFrames old a)
    (hb : ¬ c → SendsFrames old b) : SendsFrames old (if c then a else b) := by
  split_ifs with h
  · exact ha h
  · exact hb h

theorem next_onlySends (h : SendsFrames old t) : OnlySends old (.next t) := by
  rintro _ ⟨⟩
  exact h

theorem fault_onlySends (f : Fault) : OnlySends old (.fault f) := by
  rintro _ ⟨⟩

theorem readScratch_onlySends {α : Type} {x : Option α} {rule : α → Host.Outcome State Fault Refusal}
    (h : ∀ a, OnlySends old (rule a)) : OnlySends old (readScratch x rule) := by
  intro t ht
  obtain ⟨a, -, ha⟩ := readScratch_next ht
  exact h a t ha

/-! The shapes the rules share. -/

theorem unlessFault_onlySends {rule : Point → Host.Outcome State Fault Refusal}
    (h : ∀ p, s.scratch.point = p → OnlySends s.history (rule p)) : OnlySends s.history (unlessFault i s rule) := by
  by_cases hf : s.seqState = .fault
  · rw [unlessFault_fault i rule hf]
    exact next_onlySends (sendsFrames_of_done rfl)
  · rw [unlessFault_run i rule hf]
    exact h _ rfl

theorem singleStep_onlySends {r : State} (hr : SendsFrames s.history r) :
    OnlySends s.history (singleStep i s r) := by
  refine unlessFault_onlySends fun p _ => ?_
  split
  · exact next_onlySends hr
  · exact fault_onlySends _

theorem oneXfer_onlySends {b : State} {ending : Host.Outcome State Fault Refusal} (hb : SendsFrames s.history b)
    (he : OnlySends s.history ending) : OnlySends s.history (oneXfer i s b ending) := by
  refine unlessFault_onlySends fun p _ => ?_
  split
  · exact next_onlySends hb
  · exact he
  · exact fault_onlySends _

theorem modePolledStep_onlySends {m : Mode} {c : ModeCall} {e : ErrorCode}
    {rest : State → Host.Outcome State Fault Refusal}
    (hrest : ∀ s', s'.history = s.history → OnlySends s.history (rest s')) :
    OnlySends s.history (modePolledStep i m c e s rest) := by
  refine readScratch_onlySends fun canstat => ?_
  obtain ⟨-, h⟩ | ⟨-, ⟨-, h⟩ | ⟨-, -, h⟩ | ⟨-, -, h⟩⟩ := modeCheck_cases m c canstat s
  · rw [h]
    exact hrest _ rfl
  · rw [h]
    exact next_onlySends (modePoll_sends c (s' := { s with env := (drawExpiry s.env).2 }) rfl)
  · rw [h]
    exact next_onlySends (modeAttempt_sends m c (s.attempt + 1) (s' := { s with env := (drawExpiry s.env).2 }) rfl)
  · rw [h]
    exact next_onlySends (raiseOp_sends rfl)

/-! The rules with several transactions. -/

theorem initBegin_sends (bitrate crystal : Nat) (mode : Mode) (silent : Bool) :
    SendsFrames s.history (initBegin i bitrate crystal mode silent s) := by
  refine sendsFrames_ite (fun _ => raiseOp_sends rfl) fun _ => ?_
  split
  · exact raiseOp_sends rfl
  · exact sendsFrames_ite (fun _ => raiseOp_sends rfl) fun _ =>
      seqXfer_sends (sendableFrame (i := .spiInstrReset) rfl) rfl

theorem execInit_onlySends (bitrate crystal : Nat) (mode : Mode) (silent : Bool) :
    OnlySends s.history (execInit bitrate crystal mode silent s) := by
  unfold execInit
  refine unlessFault_onlySends fun p _ => ?_
  split
  · exact next_onlySends (initBegin_sends ..)
  · exact next_onlySends (modeAttempt_sends _ _ _ rfl)
  · exact next_onlySends (modePoll_sends _ rfl)
  · exact modePolledStep_onlySends fun s' hs => readScratch_onlySends fun t =>
      next_onlySends (seqXfer_sends
        (sendableFrame (i := .spiWrite Config.dev.cnf3 [t.cnf3, t.cnf2, t.cnf1]) rfl) hs)
  · exact next_onlySends (modeAttempt_sends _ _ _ rfl)
  · split
    · rename_i hframe
      exact next_onlySends (seqXfer_sends (initFrame_sendable hframe) rfl)
    · exact fault_onlySends _
  · exact modePolledStep_onlySends fun s' hs => next_onlySends (finishOk_sends hs)

theorem execSetMode_onlySends (mode : Mode) : OnlySends s.history (execSetMode mode s) := by
  unfold execSetMode
  refine unlessFault_onlySends fun p _ => ?_
  split
  · exact next_onlySends (sendsFrames_ite (fun _ => modeAttempt_sends _ _ _ rfl) fun _ => raiseOp_sends rfl)
  · exact next_onlySends (modePoll_sends _ rfl)
  · exact modePolledStep_onlySends fun s' hs => next_onlySends (finishOk_sends hs)
  · exact fault_onlySends _

theorem sendBegin_sends (f : CanFrame) : SendsFrames s.history (sendBegin i f s) :=
  sendsFrames_ite (fun _ => raiseOp_sends rfl) fun _ => sendsFrames_ite (fun _ => raiseOp_sends rfl) fun _ =>
    sendsFrames_ite (fun _ => seqXfer_sends (sendableFrame (i := .spiReadStatus) rfl) rfl) fun _ =>
      raiseOp_sends rfl

theorem sendLoad_sends {f : CanFrame} (hf : f.wf = true) (st : Byte) :
    SendsFrames s.history (sendLoad i f st s) := by
  unfold sendLoad
  dsimp only
  split
  · exact raiseOp_sends rfl
  · exact seqXfer_sends (sendLoadFrame_sendable hf _) rfl

/-- Past its checks SEND has a well-formed frame (R31, R164). -/
theorem execSend_onlySends {f : CanFrame} (hr : Ready s.cfg (.send f) s.scratch) :
    OnlySends s.history (execSend f s) := by
  unfold execSend
  refine unlessFault_onlySends fun p hp => ?_
  split
  · exact next_onlySends (sendBegin_sends f)
  · obtain hstart | ⟨hf, -⟩ := hr
    · cases hp.symm.trans hstart
    · exact readScratch_onlySends fun st => next_onlySends (sendLoad_sends hf st)
  · exact readScratch_onlySends fun sel => next_onlySends (seqXfer_sends (sendRequest_sendable sel) rfl)
  · exact readScratch_onlySends fun _ => next_onlySends (finishOk_sends rfl)
  · exact fault_onlySends _

theorem pollSecond_sends (st : Byte) (hs : s'.history = old) : SendsFrames old (pollSecond st s') :=
  sendsFrames_ite (fun _ => seqXfer_sends (pollFrame_sendable 1) hs) fun _ => finishOk_sends hs

theorem pollFirst_sends (st : Byte) (hs : s'.history = old) : SendsFrames old (pollFirst st s') :=
  sendsFrames_ite (fun _ => seqXfer_sends (pollFrame_sendable 0) hs) fun _ => pollSecond_sends st hs

theorem execPollReceive_onlySends : OnlySends s.history (execPollReceive s) := by
  unfold execPollReceive
  refine unlessFault_onlySends fun p _ => ?_
  split
  · exact next_onlySends (sendsFrames_ite
      (fun _ => seqXfer_sends (sendableFrame (i := .spiReadStatus) rfl) rfl) fun _ => raiseOp_sends rfl)
  · exact readScratch_onlySends fun st => next_onlySends (pollFirst_sends st rfl)
  · exact readScratch_onlySends fun _ => readScratch_onlySends fun _ => readScratch_onlySends fun st =>
      next_onlySends (pollSecond_sends st rfl)
  · exact readScratch_onlySends fun _ => readScratch_onlySends fun _ => next_onlySends (finishOk_sends rfl)
  · exact fault_onlySends _

theorem listenBegin_sends (fs : FilterSet) : SendsFrames s.history (listenBegin i fs s) :=
  sendsFrames_ite (fun _ => raiseOp_sends rfl) fun _ => sendsFrames_ite (fun _ => raiseOp_sends rfl) fun _ =>
    sendsFrames_ite (fun _ => raiseOp_sends rfl) fun _ => modeAttempt_sends _ _ _ rfl

/-- LISTEN's second ModeSet brings back the mode in `prior` (R171). -/
theorem listenRestore_onlySends :
    OnlySends s.history (readScratch s.scratch.prior fun m => .next (modeStart m .second s)) :=
  readScratch_onlySends fun m => next_onlySends (modeAttempt_sends m _ _ rfl)

theorem execListen_onlySends (fs : FilterSet) : OnlySends s.history (execListen fs s) := by
  unfold execListen
  refine unlessFault_onlySends fun p _ => ?_
  split
  · exact next_onlySends (listenBegin_sends fs)
  · exact next_onlySends (modePoll_sends _ rfl)
  · exact modePolledStep_onlySends fun s' hs => next_onlySends (seqXfer_sends (maskFrame_sendable fs) hs)
  · cases fs with
    | empty => exact listenRestore_onlySends
    | full r => exact next_onlySends (seqXfer_sends (filterFrameLow_sendable r) rfl)
  · cases fs with
    | empty => exact fault_onlySends _
    | full r => exact next_onlySends (seqXfer_sends (filterFrameHigh_sendable r) rfl)
  · cases fs with
    | empty => exact fault_onlySends _
    | full r => exact listenRestore_onlySends
  · exact readScratch_onlySends fun m => modePolledStep_onlySends fun s' hs => next_onlySends (finishOk_sends hs)
  · exact fault_onlySends _

theorem execUartSend_onlySends (type : Byte) (payload : List Byte) :
    OnlySends s.history (execUartSend type payload s) := by
  unfold execUartSend
  refine unlessFault_onlySends fun p _ => ?_
  split
  · exact next_onlySends (sendsFrames_ite (fun _ => raiseOp_sends rfl) fun _ => seqEmit_sends ..)
  · exact next_onlySends (finishOk_sends rfl)
  · exact fault_onlySends _

/-- A primitive with operand checks sends its one frame where they pass (R102, R121 to R129). -/
theorem checkedXfer_sends {c : Prop} [Decidable c] {j : Instr} {e : ErrorCode} {info : Byte} {p : Point}
    (h : ¬ c → blockFrame j = true) :
    SendsFrames s.history (if c then raiseOp i e info s else seqXfer (frameOf j) p s) :=
  sendsFrames_ite (fun _ => raiseOp_sends rfl) fun hc => seqXfer_sends (sendableFrame (h hc)) rfl

/-- A step of a host operation, at a position of its rule, sends only frames that the block may send. -/
theorem exec_onlySends (hi : isHostOp i = true) (hr : Ready s.cfg i s.scratch) : OnlySends s.history (exec i s) := by
  have returns (j : Instr) (v : Value) : OnlySends s.history (.next (finishOk j v s)) :=
    next_onlySends (finishOk_sends rfl)
  cases i with
  | getStatus | decId | decDlc | decFrame => exact singleStep_onlySends (finishOk_sends rfl)
  | encId | encDlc | uartCks | uartBuild =>
    exact singleStep_onlySends (sendsFrames_ite (fun _ => raiseOp_sends rfl) fun _ => finishOk_sends rfl)
  | encFrame =>
    exact singleStep_onlySends (sendsFrames_ite (fun _ => raiseOp_sends rfl) fun _ =>
      sendsFrames_ite (fun _ => raiseOp_sends rfl) fun _ => finishOk_sends rfl)
  | uartParse bytes =>
    refine singleStep_onlySends ?_
    split
    · exact raiseOp_sends rfl
    · exact finishOk_sends rfl
  | uartSend => exact execUartSend_onlySends _ _
  | spiReset =>
    exact oneXfer_onlySends (seqXfer_sends (sendableFrame (i := .spiInstrReset) rfl) rfl) (returns _ _)
  | regRead addr n =>
    exact oneXfer_onlySends (checkedXfer_sends (j := .spiRead addr n) burstOk_of_checked)
      (readScratch_onlySends fun _ => returns _ _)
  | regWrite addr data =>
    exact oneXfer_onlySends (checkedXfer_sends (j := .spiWrite addr data) burstOk_of_checked) (returns _ _)
  | bitModify addr mask data =>
    exact oneXfer_onlySends
      (checkedXfer_sends (j := .spiBitModify addr mask data) fun h => decide_eq_true (addr_of_checked h))
      (returns _ _)
  | readStatus =>
    exact oneXfer_onlySends (seqXfer_sends (sendableFrame (i := .spiReadStatus) rfl) rfl)
      (readScratch_onlySends fun _ => returns _ _)
  | rxStatus =>
    exact oneXfer_onlySends (seqXfer_sends (sendableFrame (i := .spiRxStatus) rfl) rfl)
      (readScratch_onlySends fun _ => returns _ _)
  | rts t =>
    exact oneXfer_onlySends
      (checkedXfer_sends (j := .spiRts (t.setWidth 3)) fun h => bne_iff_ne.mpr (rts_of_checked h)) (returns _ _)
  | loadTx sel data =>
    refine oneXfer_onlySends
      (checkedXfer_sends (j := .spiLoadTxBuffer (sel.setWidth 3) data) fun h => ?_) (returns _ _)
    obtain ⟨habc, hlen⟩ := loadTx_of_checked h
    exact Bool.and_eq_true_iff.mpr ⟨decide_eq_true habc, hlen⟩
  | readRx sel n =>
    exact oneXfer_onlySends
      (checkedXfer_sends (j := .spiReadRxBuffer (sel.getLsbD 1) (sel.getLsbD 0) n) readRx_of_checked)
      (readScratch_onlySends fun _ => returns _ _)
  | busState =>
    exact oneXfer_onlySends
      (sendsFrames_ite (fun _ => seqXfer_sends (sendableFrame (i := .spiRead Config.dev.eflg 1) rfl) rfl)
        fun _ => raiseOp_sends rfl)
      (readScratch_onlySends fun _ => returns _ _)
  | init => exact execInit_onlySends _ _ _ _
  | setMode => exact execSetMode_onlySends _
  | send => exact execSend_onlySends hr
  | pollReceive => exact execPollReceive_onlySends
  | listen => exact execListen_onlySends _
  | spiInstrReset | spiRead | spiReadRxBuffer | spiWrite | spiLoadTxBuffer | spiRts | spiReadStatus
  | spiRxStatus | spiBitModify => cases hi

/-! ### What a step sends -/

theorem Inv.ready {c : Command} (h : Inv s) (hb : s.seqState = .busy) (hop : s.op = some c)
    (hd : decodeHost c = .ok i) : Ready s.cfg i s.scratch := by
  have hpos := h.position hb
  rw [hop] at hpos
  dsimp only at hpos
  rwa [hd] at hpos

theorem busyStep_onlySends (h : Inv s) (hb : s.seqState = .busy) : OnlySends s.history (busyStep s) := by
  unfold busyStep
  split
  · exact fault_onlySends _
  · rename_i c hop
    split
    · rename_i i hd
      exact exec_onlySends (isHostOp_of_decodeHost hd) (h.ready hb hop hd)
    · exact next_onlySends (raiseError_sends rfl)
    · rintro _ ⟨⟩

theorem seqStep_sends (h : Inv s) (ht : seqStep s = .next t) : SendsFrames s.history t := by
  cases seqStep_cases ht with
  | runs hb _ | illegal _ hb =>
    simp only [seqStep, hb] at ht
    exact busyStep_onlySends h hb _ ht
  | waits _ => exact sendsFrames_of_same rfl
  | accepts c _ => exact sendsFrames_of_same rfl
  | refuses o _ => exact sendsFrames_of_done rfl

theorem urxEvents_no_spi (cfg : Params) (u : Urx) (b : Byte) (tx rx : List Byte) :
    Event.spi tx rx ∉ urxEvents cfg u b := by
  unfold urxEvents deliverEvents
  dsimp only
  split
  · split_ifs <;> simp
  · simp

theorem urxStep_sends (s : State) : SendsFrames s.history (urxStep s) := by
  unfold urxStep
  split
  · exact sendsFrames_of_same rfl
  · rw [urxByte_eq]
    exact ⟨_, rfl, fun tx rx hmem => absurd hmem (urxEvents_no_spi _ _ _ tx rx)⟩

theorem deviceTurn_history (f : Device → Device) (s : State) : (deviceTurn f s).history = s.history := by
  unfold deviceTurn
  split
  · rfl
  · rfl

theorem modeTurn_history (k : Nat) (s : State) : (modeTurn k s).history = s.history := by
  unfold modeTurn
  dsimp only
  split
  · rfl
  · rfl

theorem turnStep_sends {u : Turn} (h : Inv s) (ht : turnStep u s = .next t) : SendsFrames s.history t := by
  cases u with
  | seq => exact seqStep_sends h ht
  | host c => cases ht; exact sendsFrames_of_same (hostStep_history c s)
  | peer b => cases ht; exact sendsFrames_of_same rfl
  | urx => cases ht; exact urxStep_sends s
  | blockReset => cases ht; exact ⟨[.reset], rfl, by simp⟩
  | deviceMode k => cases ht; exact sendsFrames_of_same (modeTurn_history k s)
  | busFrame named img other => cases ht; exact sendsFrames_of_same (deviceTurn_history ..)
  | txDone n named img other => cases ht; exact sendsFrames_of_same (deviceTurn_history ..)

end

/-- Settles O10: with nothing on the device's port the step is a turn, and of the turns SEQ's alone sends
(`turnStep_sends`, `exec_onlySends`). -/
theorem seqSendsOnlyTableInstructions : Obligations.SeqSendsOnlyTableInstructions := by
  intro s t h hl ht
  obtain ⟨frame, hlink, -⟩ | ⟨-, hs⟩ := step_cases s
  · cases hl.symm.trans hlink
  · exact turnStep_sends (s := { s with env := (drawTurn s.env).2 }) (drawTurn_inv h) (hs.symm.trans ht)

end Sys2Proof.Machine
end

section
/-! The codec, bit by bit (O20), the UART frame read back (O25), and the operands that the SPI primitives refuse
(O31). -/

namespace Sys2Proof.Machine

/-! ### The identifier image and the DLC byte -/

/-- Every bit of an extended image (R97). -/
theorem encIdImage_bits_ext (id : Id) :
    let img := encIdImage id true
    (∀ k, k < 8 → img.sidh.getLsbD k = id.getLsbD (21 + k)) ∧
      (∀ k, k < 3 → img.sidl.getLsbD (5 + k) = id.getLsbD (18 + k)) ∧
      img.sidl.getLsbD 4 = false ∧ img.sidl.getLsbD 3 = true ∧ img.sidl.getLsbD 2 = false ∧
      (∀ k, k < 2 → img.sidl.getLsbD k = id.getLsbD (16 + k)) ∧
      (∀ k, k < 8 → img.eid8.getLsbD k = id.getLsbD (8 + k)) ∧
      ∀ k, k < 8 → img.eid0.getLsbD k = id.getLsbD k := by
  dsimp only
  rw [encIdImage_sidl_ext]
  refine ⟨fun k hk => ?sidh, fun k hk => ?sid, ?_, ?_, ?_, fun k hk => ?eid, fun k hk => ?eid8, fun k hk => ?eid0⟩
  case sidh | eid8 | eid0 => simp [encIdImage, hk]
  case sid | eid =>
    simp only [BitVec.getLsbD_append]
    interval_cases k <;> simp
  all_goals
    simp only [BitVec.getLsbD_append]
    simp

/-- Every bit of a standard image (R97). -/
theorem encIdImage_bits_std (id : Id) :
    let img := encIdImage id false
    (∀ k, k < 8 → img.sidh.getLsbD k = id.getLsbD (3 + k)) ∧
      (∀ k, k < 3 → img.sidl.getLsbD (5 + k) = id.getLsbD k) ∧
      (∀ k, k < 5 → img.sidl.getLsbD k = false) ∧ img.eid8 = 0x00 ∧ img.eid0 = 0x00 := by
  dsimp only
  rw [encIdImage_sidl_std]
  refine ⟨fun k hk => ?sidh, fun k hk => ?sid, fun k hk => ?low, rfl, rfl⟩
  case sidh => simp [encIdImage, hk]
  case sid | low =>
    simp only [BitVec.getLsbD_append]
    interval_cases k <;> simp

/-- Every field of the DLC byte (R98). -/
theorem encDlcByte_fields {n : Nat} (hn : n ≤ 8) (rtr : Bool) :
    (encDlcByte n rtr &&& 0x0F).toNat = n ∧ (encDlcByte n rtr).getLsbD 6 = rtr ∧
      (encDlcByte n rtr).getLsbD 7 = false ∧ (encDlcByte n rtr).getLsbD 5 = false ∧
      (encDlcByte n rtr).getLsbD 4 = false := by
  revert rtr
  interval_cases n <;> decide

/-- The lower of two concatenated words counts as it is, the upper one shifted. -/
theorem toNat_append_eq_add {m n : Nat} (x : BitVec m) (y : BitVec n) :
    (x ++ y).toNat = x.toNat * 2 ^ n + y.toNat := by
  rw [BitVec.toNat_append, ← Nat.shiftLeft_add_eq_or_of_lt y.isLt, Nat.shiftLeft_eq]

theorem sidlSid_toNat (img : IdImage) : (sidlSid img).toNat = img.sidl.toNat / 2 ^ 5 := by
  have all : ∀ b : Byte, (b.extractLsb' 5 3).toNat = b.toNat / 2 ^ 5 := by decide
  exact all img.sidl

theorem sidlEid_toNat (img : IdImage) : (sidlEid img).toNat = img.sidl.toNat % 4 := by
  have all : ∀ b : Byte, (b.extractLsb' 0 2).toNat = b.toNat % 4 := by decide
  exact all img.sidl

/-- The number that DecId reads from an extended image (R192). -/
theorem decIdValue_ext {img : IdImage} (h : decExt img = true) :
    (decIdValue img).toNat =
      img.sidh.toNat * 2 ^ 21 + img.sidl.toNat / 2 ^ 5 * 2 ^ 18 + img.sidl.toNat % 4 * 2 ^ 16 +
        img.eid8.toNat * 2 ^ 8 + img.eid0.toNat := by
  rw [decIdValue, if_pos h]
  simp only [toNat_append_eq_add, sidlSid_toNat, sidlEid_toNat]
  omega

/-- The number that DecId reads from a standard image (R192). -/
theorem decIdValue_std {img : IdImage} (h : ¬ decExt img = true) :
    (decIdValue img).toNat = img.sidh.toNat * 2 ^ 3 + img.sidl.toNat / 2 ^ 5 := by
  have hsidh := img.sidh.isLt
  have hsidl := img.sidl.isLt
  rw [decIdValue, if_neg h, BitVec.toNat_setWidth, toNat_append_eq_add, sidlSid_toNat]
  omega

/-- Settles O20: the image by `encIdImage_bits_ext` and `encIdImage_bits_std`, the DLC byte by `encDlcByte_fields`,
DecId by `decIdValue_ext` and `decIdValue_std`. -/
theorem imageBits : Obligations.ImageBits := by
  refine ⟨fun id ext _ => ?image, fun n rtr hn => encDlcByte_fields hn rtr, fun img => ?value⟩
  case image =>
    cases ext with
    | true => simpa using encIdImage_bits_ext id
    | false =>
      obtain ⟨hsidh, hsid, hlow, heid8, heid0⟩ := encIdImage_bits_std id
      refine ⟨hsidh, fun k hk => ?_, hlow 4 (by decide), hlow 3 (by decide), hlow 2 (by decide),
        fun k hk => hlow k (by omega), fun k _ => ?_, fun k _ => ?_⟩
      · simpa using hsid k hk
      · simp [heid8]
      · simp [heid0]
  case value =>
    split
    · rename_i h
      exact decIdValue_ext h
    · rename_i h
      exact decIdValue_std h

/-! ### The UART frame -/

/-- What Parse accepts, with the header, the type and the length byte taken apart (R223). -/
theorem uartParseBytes_ok_iff (header type len : Byte) (body : List Byte) (type' : Byte) (p : List Byte) :
    uartParseBytes (header :: type :: len :: body) = .ok (type', p) ↔
      header = Config.uartHeader ∧ body.length = len.toNat + 1 ∧ type = type' ∧ body.take len.toNat = p ∧
        body.drop len.toNat = [uartCksByte type p] := by
  cases body with
  | nil => simp [uartParseBytes]
  | cons c rest =>
    have hlen : (header :: type :: len :: c :: rest).length = 4 + len.toNat ↔
        (c :: rest).length = len.toNat + 1 := by
      simp only [List.length_cons]
      omega
    simp only [uartParseBytes, ne_eq, hlen]
    split_ifs with hh hl hd
    · simp only [Except.ok.injEq, Prod.mk.injEq]
      exact ⟨fun ⟨ht, hp⟩ => ⟨hh, hl, ht, hp, hp ▸ hd⟩, fun ⟨_, _, ht, hp, _⟩ => ⟨ht, hp⟩⟩
    · exact iff_of_false nofun fun ⟨_, _, _, hp, hd'⟩ => hd (hp ▸ hd')
    · exact iff_of_false nofun fun ⟨_, hl', _⟩ => hl hl'
    · exact iff_of_false nofun fun ⟨hh', _⟩ => hh hh'

theorem uartFrameBytes_eq (type : Byte) (p : List Byte) :
    uartFrameBytes type p =
      Config.uartHeader :: type :: BitVec.ofNat 8 p.length :: (p ++ [uartCksByte type p]) := rfl

/-- Settles O25: a list of three bytes or more by `uartParseBytes_ok_iff`, where the payload and the checksum are the
two parts of the body; a shorter list is no frame. -/
theorem parseInvertsBuild : Obligations.ParseInvertsBuild := by
  intro l type p
  rw [uartFrameBytes_eq]
  rcases l with _ | ⟨header, _ | ⟨type', _ | ⟨len, body⟩⟩⟩
  case cons.cons.cons =>
    rw [uartParseBytes_ok_iff]
    constructor
    · rintro ⟨rfl, hlen, rfl, rfl, hcks⟩
      have hp : (body.take len.toNat).length = len.toNat := by simp [hlen]
      refine ⟨by omega, ?_⟩
      rw [← hcks, hp, List.take_append_drop, BitVec.ofNat_toNat, BitVec.setWidth_eq]
    · rintro ⟨hp, h⟩
      obtain ⟨rfl, rfl, rfl, rfl⟩ : header = Config.uartHeader ∧ type' = type ∧ len = BitVec.ofNat 8 p.length ∧
          body = p ++ [uartCksByte type p] := by simpa using h
      have hlen : (BitVec.ofNat 8 p.length).toNat = p.length := by
        rw [BitVec.toNat_ofNat]
        omega
      simp [hlen]
  all_goals exact iff_of_false nofun fun ⟨_, h⟩ => by simp at h

/-! ### Operands outside their domain -/

/-- A primitive's first step is its check and its transaction (R23). -/
theorem oneXfer_start {i : Instr} {s : State} (b : State) (ending : Host.Outcome State Fault Refusal)
    (h : BusyAt .start s) : oneXfer i s b ending = .next b := by
  obtain ⟨hb, hp⟩ := h
  have hf : s.seqState ≠ .fault := by simp [hb]
  rw [oneXfer, unlessFault_run i _ hf, hp]

/-- A primitive whose check fails ends with IllegalOperand before any transaction (R102). -/
theorem oneXfer_refused {i : Instr} {s x : State} {c : Prop} [Decidable c]
    {ending : Host.Outcome State Fault Refusal} (h : BusyAt .start s) (hc : c) :
    oneXfer i s (if c then raiseOp i .illegalOperand 0x00 s else x) ending =
      .next (afterError (.legal i) .illegalOperand 0x00 s) := by
  rw [oneXfer_start _ _ h, if_pos hc, raiseOp_nonfatal i 0x00 s rfl]

/-- Settles O31: each operand outside its domain fails the check of its primitive (`oneXfer_refused`). -/
theorem primitiveOperandErrors : Obligations.PrimitiveOperandErrors := by
  intro s h
  refine ⟨fun addr n hbad => ?read, fun addr data hbad => ?write, fun addr mask data hbad => ?bitModify,
    fun t hbad => ?rts, fun sel data hbad => ?loadTx, fun sel n hbad => ?readRx⟩
  case read => exact oneXfer_refused h ((badBurst_iff ..).mpr hbad)
  case write => exact oneXfer_refused h ((badBurst_iff ..).mpr (by rwa [List.length_eq_zero_iff]))
  case bitModify => exact oneXfer_refused h (decide_eq_true hbad)
  case rts => exact oneXfer_refused h ((badRts_iff t).mpr hbad)
  case loadTx => exact oneXfer_refused h ((badLoadTx_iff ..).mpr (by rwa [List.length_eq_zero_iff]))
  case readRx => exact oneXfer_refused h ((badReadRx_iff ..).mpr hbad)

end Sys2Proof.Machine
end

section
/-! The device's port (O48), and on the reference device LOAD TX BUFFER (O51), RTS and RESET (O53). -/

namespace Sys2Proof.Machine

/-- Settles O48: each instruction by `portTransaction_eq` and the equation of its first byte; a transaction with no law
by `deviceXfer_any` and `drawBytes_given`. -/
theorem spiInstructionsComplete : Obligations.SpiInstructionsComplete := by
  refine ⟨fun s => ⟨rfl, fun a n => rfl, fun n m k => ?readRx, fun a d => rfl, fun abc d => ?loadTx, fun t => ?rts,
    rfl, rfl, fun a m d => rfl⟩, fun tx rx rest d e hl hlen he => ?draws⟩
  case readRx => rw [← readRxByte_eq]; rfl
  case loadTx => rw [← loadTxByte_eq]; rfl
  case rts => rw [← rtsByte_eq]; rfl
  case draws => rw [deviceXfer_any tx d e hl, ← hlen, drawBytes_given rx rest e he]

/-! ### LOAD TX BUFFER -/

/-- How many bytes stand in the buffer from LOAD TX BUFFER's start on (R93, R102). -/
def loadTxRoom (abc : BitVec 3) : Nat := if abc.getLsbD 0 then 8 else 13

section
variable (d : Device) {abc : BitVec 3} (data raw : List Byte)

theorem Device.answer_loadTx (habc : abc.toNat ≤ 5) :
    d.answer (frameOf (.spiLoadTxBuffer abc data)) raw = (raw, d.writeFrame (loadTxStart abc) data) := by
  have hview : deviceView (frameOf (.spiLoadTxBuffer abc data)) = frameOf (.spiLoadTxBuffer abc data) := by
    simp [frameOf, encode, deviceView, SpiOp.ofByte_loadTxByte]
  have hdecode := decodeSpi_frameOf (i := .spiLoadTxBuffer abc data) rfl (decide_eq_true habc)
  simp only [Device.answer, hview, hdecode]

/-- From LOAD TX BUFFER's start on the buffer's registers are no mirrors, and take what is written to them. -/
theorem loadTx_register (habc : abc.toNat ≤ 5) {k : Nat} (hk : k < loadTxRoom abc) :
    canonAddr (loadTxStart abc + k) = loadTxStart abc + k ∧
      ∃ r ∈ [RegKind.txbSidl, .txbDlc, .txbByte], regKind (loadTxStart abc + k) = some r := by
  have all : ∀ abc : BitVec 3, abc.toNat ≤ 5 → ∀ k < loadTxRoom abc,
      canonAddr (loadTxStart abc + k) = loadTxStart abc + k ∧
        ∃ r ∈ [RegKind.txbSidl, .txbDlc, .txbByte], regKind (loadTxStart abc + k) = some r := by decide +kernel
  exact all abc habc k hk

variable {data}

/-- Within its buffer LOAD TX BUFFER puts each byte in the register it reaches (R93). -/
theorem Device.loadTx_read (habc : abc.toNat ≤ 5) (hlen : data.length ≤ loadTxRoom abc) {k : Nat} {b : Byte}
    (hb : data[k]? = some b) :
    (d.writeBurst (loadTxStart abc) data).read (loadTxStart abc + k) = b &&& implBits (loadTxStart abc + k) := by
  obtain ⟨hk, -⟩ := List.getElem?_eq_some_iff.mp hb
  obtain ⟨hcanon, r, hr, hkind⟩ := loadTx_register habc (Nat.lt_of_lt_of_le hk hlen)
  have hlast (j : Nat) (hj : k < j) (hjlen : j < data.length) :
      canonAddr (loadTxStart abc + j) ≠ canonAddr (loadTxStart abc + k) := by
    obtain ⟨hcanon', -⟩ := loadTx_register habc (Nat.lt_of_lt_of_le hjlen hlen)
    rw [hcanon, hcanon']
    omega
  obtain ⟨old, -, hnew⟩ := d.writeBurst_contents_last hb hlast hkind
  rw [Device.read, hnew, d.written_rw _ _ (List.mem_append_right
    [.canctrl, .bfpctrl, .cnf1, .cnf2, .cnf3, .caninte, .canintf] hr)]

theorem Device.loadTx_other (habc : abc.toNat ≤ 5) (hlen : data.length ≤ loadTxRoom abc) {a : Nat}
    (ha : ∀ k, k < data.length → canonAddr a ≠ loadTxStart abc + k) :
    (d.writeBurst (loadTxStart abc) data).read a = d.read a := by
  refine Device.read_of_contents (d.writeBurst_contents_other fun j hj => ?_)
  obtain ⟨hcanon, -⟩ := loadTx_register habc (Nat.lt_of_lt_of_le hj hlen)
  rw [hcanon]
  exact Ne.symm (ha j hj)

end

theorem loadTx_within {abc : BitVec 3} (habc : abc.toNat ≤ 5) : loadTxStart abc + loadTxRoom abc ≤ 0x80 := by
  revert abc; decide

/-- Settles O51: within the buffer by `Device.loadTx_read` and `Device.loadTx_other`; of any length LOAD TX BUFFER and
the WRITE from its start are one `writeFrame`. -/
theorem referenceLoadTx : Obligations.ReferenceLoadTx := by
  intro s t abc data hl habc h
  obtain ⟨raw, -, hdev, -⟩ := exec_reference rfl hl h
  rw [Device.answer_loadTx _ _ _ habc] at hdev
  have hroom := loadTx_within habc
  rw [← loadTxStart_eq abc habc]
  refine ⟨fun hlen => ?buffer, fun _ => ?write⟩
  case buffer =>
    have hlen : data.length ≤ loadTxRoom abc := hlen
    rw [s.dev.writeFrame_within (by omega)] at hdev
    rw [hdev]
    exact ⟨fun k b hb => s.dev.loadTx_read habc hlen hb, fun a ha => s.dev.loadTx_other habc hlen ha⟩
  case write =>
    have hu := exec_spi (i := .spiWrite (BitVec.ofNat 8 (loadTxStart abc)) data) rfl s
    obtain ⟨raw', -, hdev', -⟩ := exec_reference rfl hl hu
    have haddr : (BitVec.ofNat 8 (loadTxStart abc)).toNat = loadTxStart abc := by
      rw [BitVec.toNat_ofNat]
      omega
    rw [Device.answer_write, haddr] at hdev'
    exact ⟨_, hu, hdev'.trans hdev.symm⟩

/-! ### RTS and RESET -/

section
variable (d : Device) (asked : Bool) (n : Fin Config.nTxBuf)

theorem Device.answer_rts (t : BitVec 3) (raw : List Byte) :
    d.answer (frameOf (.spiRts t)) raw = (raw, d.requestToSend t) := by
  have hview : deviceView (frameOf (.spiRts t)) = frameOf (.spiRts t) := by
    simp [frameOf, encode, deviceView, SpiOp.ofByte_rtsByte]
  have hdecode := decodeSpi_frameOf (i := .spiRts t) rfl rfl
  simp only [Device.answer, hview, hdecode]

theorem Device.requestIf_ctrl :
    (d.requestIf asked n).read (txbBase n) = d.read (txbBase n) ||| if asked then 0x08 else 0x00 := by
  have himpl : (implBits (txbBase n)).getLsbD Config.dev.txreq = true := by revert n; decide
  cases asked with
  | true => exact d.read_setBit_same himpl
  | false => exact (BitVec.or_zero).symm

theorem Device.requestIf_other {a : Nat} (h : canonAddr a ≠ txbBase n) :
    (d.requestIf asked n).read a = d.read a := by
  cases asked with
  | true => exact d.read_setBit_other _ (by rwa [canonAddr_txbBase])
  | false => rfl

theorem Device.requestIf_modeReqs : (d.requestIf asked n).modeReqs = d.modeReqs := by cases asked <;> rfl

theorem Device.requestToSend_modeReqs (t : BitVec 3) : (d.requestToSend t).modeReqs = d.modeReqs := by
  rw [Device.requestToSend, Device.requestIf_modeReqs, Device.requestIf_modeReqs, Device.requestIf_modeReqs]

/-- Every register after RTS (R71, R95). -/
theorem Device.requestToSend_read (t : BitVec 3) :
    (d.requestToSend t).read 0x30 = d.read 0x30 ||| (if t.getLsbD 0 then 0x08 else 0x00) ∧
      (d.requestToSend t).read 0x40 = d.read 0x40 ||| (if t.getLsbD 1 then 0x08 else 0x00) ∧
      (d.requestToSend t).read 0x50 = d.read 0x50 ||| (if t.getLsbD 2 then 0x08 else 0x00) ∧
      ∀ a, canonAddr a ≠ 0x30 → canonAddr a ≠ 0x40 → canonAddr a ≠ 0x50 →
        (d.requestToSend t).read a = d.read a := by
  have other (d : Device) (asked : Bool) (n : Fin Config.nTxBuf) {a : Nat} (h : canonAddr a ≠ txbBase n) :=
    d.requestIf_other asked n h
  unfold Device.requestToSend
  refine ⟨?_, ?_, ?_, fun a h0 h1 h2 => ?_⟩
  · rw [other _ _ 2 (by decide), other _ _ 1 (by decide)]
    exact d.requestIf_ctrl _ 0
  · rw [other _ _ 2 (by decide)]
    exact (Device.requestIf_ctrl _ _ 1).trans (congrArg (· ||| _) (other d _ 0 (by decide)))
  · refine (Device.requestIf_ctrl _ _ 2).trans (congrArg (· ||| _) ?_)
    exact (other _ _ 1 (by decide)).trans (other d _ 0 (by decide))
  · rw [other _ _ 2 h2, other _ _ 1 h1, other _ _ 0 h0]

/-- After RESET a register that R70 names has its reset value. -/
theorem Device.reset_read {a : Nat} {b : Byte} (h : resetContents (canonAddr a) = some b) :
    d.reset.read a = b &&& implBits a := by
  have hread : Memory.read d.reset.regs (canonAddr a) = some b := h
  simp only [Device.read, Device.contents, hread]

end

/-- Settles O53: RTS by `Device.requestToSend_read`, RESET by `Device.reset_read`. -/
theorem referenceRtsAndReset : Obligations.ReferenceRtsAndReset := by
  intro s t hl
  refine ⟨fun k h => ?rts, fun h => ?reset⟩
  case rts =>
    obtain ⟨raw, -, hdev, -⟩ := exec_reference rfl hl h
    rw [Device.answer_rts] at hdev
    rw [hdev]
    obtain ⟨h0, h1, h2, hother⟩ := s.dev.requestToSend_read k
    exact ⟨h0, h1, h2, s.dev.requestToSend_modeReqs k, hother⟩
  case reset =>
    obtain ⟨raw, -, hdev, -⟩ := exec_reference rfl hl h
    have hdev : t.dev = s.dev.reset := hdev
    rw [hdev]
    have hzero : ∀ a ∈ [0x0C, 0x0D, 0x1C, 0x1D, 0x28, 0x29, 0x2A, 0x2B, 0x2C, 0x2D, 0x30, 0x40, 0x50, 0x60, 0x70],
        resetContents (canonAddr a) = some 0x00 := by decide +kernel
    refine ⟨?_, ?_, rfl, fun a ha => ?_⟩
    · exact (s.dev.reset_read (b := 0x87) (by decide)).trans (by decide)
    · exact (s.dev.reset_read (b := 0x80) (by decide)).trans (by decide)
    · exact (s.dev.reset_read (hzero a ha)).trans BitVec.zero_and

end Sys2Proof.Machine
end

section
/-! The SPI primitives (R121 to R130): each sends its one frame and then returns (O29, O30); and which instructions
leave the block's beliefs about the device alone (O32). -/

namespace Sys2Proof.Machine

/-! ### The beliefs over an instruction -/

/-- What SEQ believes of the device, and the running attempt (R20, R24, R35). -/
def beliefs (s : State) : Bool × CurMode × Bool × Nat := (s.initialized, s.curMode, s.filtersLocked, s.attempt)

theorem beliefs_eq_iff (s t : State) :
    beliefs t = beliefs s ↔
      t.initialized = s.initialized ∧ t.curMode = s.curMode ∧ t.filtersLocked = s.filtersLocked ∧
        t.attempt = s.attempt := by
  simp [beliefs]

/-- An outcome is no next state, or one with the same beliefs. -/
def KeepsBeliefs (s : State) (o : Host.Outcome State Fault Refusal) : Prop :=
  ∀ t, o = .next t → beliefs t = beliefs s

section
variable {i : Instr} {s t : State}

theorem beliefs_ite {a b : State} {c : Prop} [Decidable c] (ha : beliefs a = beliefs s)
    (hb : beliefs b = beliefs s) : beliefs (if c then a else b) = beliefs s := by
  split
  · exact ha
  · exact hb

/-- An error, fatal or not, leaves the beliefs (R251, R253). -/
theorem raiseOp_beliefs (i : Instr) (e : ErrorCode) (info : Byte) (s : State) :
    beliefs (raiseOp i e info s) = beliefs s := by
  obtain ⟨-, h⟩ | ⟨-, h⟩ := raiseError_cases (.legal i) e info s
  · rw [raiseOp, h]; rfl
  · rw [raiseOp, h]; rfl

theorem next_keepsBeliefs (h : beliefs t = beliefs s) : KeepsBeliefs s (.next t) := by
  rintro _ ⟨⟩
  exact h

theorem fault_keepsBeliefs (f : Fault) : KeepsBeliefs s (.fault f) := by
  rintro _ ⟨⟩

theorem readScratch_keepsBeliefs {α : Type} {x : Option α} {rule : α → Host.Outcome State Fault Refusal}
    (h : ∀ a, KeepsBeliefs s (rule a)) : KeepsBeliefs s (readScratch x rule) := by
  intro t ht
  obtain ⟨a, -, ha⟩ := readScratch_next ht
  exact h a t ha

theorem unlessFault_keepsBeliefs {rule : Point → Host.Outcome State Fault Refusal}
    (h : ∀ p, KeepsBeliefs s (rule p)) : KeepsBeliefs s (unlessFault i s rule) := by
  by_cases hf : s.seqState = .fault
  · rw [unlessFault_fault i rule hf]
    exact next_keepsBeliefs rfl
  · rw [unlessFault_run i rule hf]
    exact h _

theorem singleStep_keepsBeliefs {r : State} (hr : beliefs r = beliefs s) :
    KeepsBeliefs s (singleStep i s r) := by
  refine unlessFault_keepsBeliefs fun p => ?_
  split
  · exact next_keepsBeliefs hr
  · exact fault_keepsBeliefs _

theorem oneXfer_keepsBeliefs {b : State} {ending : Host.Outcome State Fault Refusal}
    (hb : beliefs b = beliefs s) (he : KeepsBeliefs s ending) : KeepsBeliefs s (oneXfer i s b ending) := by
  refine unlessFault_keepsBeliefs fun p => ?_
  split
  · exact next_keepsBeliefs hb
  · exact he
  · exact fault_keepsBeliefs _

theorem execUartSend_keepsBeliefs (type : Byte) (payload : List Byte) :
    KeepsBeliefs s (execUartSend type payload s) := by
  unfold execUartSend
  refine unlessFault_keepsBeliefs fun p => ?_
  split
  · exact next_keepsBeliefs (beliefs_ite (raiseOp_beliefs ..) rfl)
  · exact next_keepsBeliefs rfl
  · exact fault_keepsBeliefs _

theorem sendBegin_beliefs (f : CanFrame) : beliefs (sendBegin i f s) = beliefs s :=
  beliefs_ite (raiseOp_beliefs ..) (beliefs_ite (raiseOp_beliefs ..) (beliefs_ite rfl (raiseOp_beliefs ..)))

theorem sendLoad_beliefs (f : CanFrame) (st : Byte) : beliefs (sendLoad i f st s) = beliefs s := by
  unfold sendLoad
  split
  · exact raiseOp_beliefs ..
  · rfl

theorem execSend_keepsBeliefs (f : CanFrame) : KeepsBeliefs s (execSend f s) := by
  unfold execSend
  refine unlessFault_keepsBeliefs fun p => ?_
  split
  · exact next_keepsBeliefs (sendBegin_beliefs f)
  · exact readScratch_keepsBeliefs fun st => next_keepsBeliefs (sendLoad_beliefs f st)
  · exact readScratch_keepsBeliefs fun _ => next_keepsBeliefs rfl
  · exact readScratch_keepsBeliefs fun _ => next_keepsBeliefs rfl
  · exact fault_keepsBeliefs _

theorem pollSecond_beliefs (st : Byte) (s : State) : beliefs (pollSecond st s) = beliefs s := beliefs_ite rfl rfl

theorem pollFirst_beliefs (st : Byte) (s : State) : beliefs (pollFirst st s) = beliefs s :=
  beliefs_ite rfl (pollSecond_beliefs st s)

theorem execPollReceive_keepsBeliefs : KeepsBeliefs s (execPollReceive s) := by
  refine unlessFault_keepsBeliefs fun p => ?_
  split
  · exact next_keepsBeliefs (beliefs_ite rfl (raiseOp_beliefs ..))
  · exact readScratch_keepsBeliefs fun st => next_keepsBeliefs (pollFirst_beliefs st _)
  · exact readScratch_keepsBeliefs fun _ => readScratch_keepsBeliefs fun _ => readScratch_keepsBeliefs fun st =>
      next_keepsBeliefs (pollSecond_beliefs st _)
  · exact readScratch_keepsBeliefs fun _ => readScratch_keepsBeliefs fun _ => next_keepsBeliefs rfl
  · exact fault_keepsBeliefs _

theorem exec_keepsBeliefs (h : writesBeliefs i = false) : KeepsBeliefs s (exec i s) := by
  cases i with
  | spiReset | init | setMode | listen => cases h
  | getStatus | decId | decDlc | decFrame => exact singleStep_keepsBeliefs rfl
  | encId | encDlc | uartCks | uartBuild =>
    exact singleStep_keepsBeliefs (beliefs_ite (raiseOp_beliefs ..) rfl)
  | encFrame =>
    exact singleStep_keepsBeliefs (beliefs_ite (raiseOp_beliefs ..) (beliefs_ite (raiseOp_beliefs ..) rfl))
  | uartParse bytes =>
    refine singleStep_keepsBeliefs ?_
    split
    · exact raiseOp_beliefs ..
    · rfl
  | uartSend type payload => exact execUartSend_keepsBeliefs type payload
  | regWrite | bitModify | rts | loadTx =>
    exact oneXfer_keepsBeliefs (beliefs_ite (raiseOp_beliefs ..) rfl) (next_keepsBeliefs rfl)
  | regRead | readRx =>
    exact oneXfer_keepsBeliefs (beliefs_ite (raiseOp_beliefs ..) rfl)
      (readScratch_keepsBeliefs fun _ => next_keepsBeliefs rfl)
  | readStatus | rxStatus =>
    exact oneXfer_keepsBeliefs rfl (readScratch_keepsBeliefs fun _ => next_keepsBeliefs rfl)
  | busState =>
    exact oneXfer_keepsBeliefs (beliefs_ite rfl (raiseOp_beliefs ..))
      (readScratch_keepsBeliefs fun _ => next_keepsBeliefs rfl)
  | send f => exact execSend_keepsBeliefs f
  | pollReceive => exact execPollReceive_keepsBeliefs
  | spiInstrReset | spiRead | spiReadRxBuffer | spiWrite | spiLoadTxBuffer | spiRts | spiReadStatus
  | spiRxStatus | spiBitModify => exact next_keepsBeliefs rfl

end

/-- Settles O32, by `exec_keepsBeliefs`. -/
theorem otherInstructionsKeepBeliefs : Obligations.OtherInstructionsKeepBeliefs := by
  intro i s t hi h
  exact (beliefs_eq_iff s t).mp (exec_keepsBeliefs hi t h)

/-! ### The two steps of a primitive -/

/-- From `s` the operation sends `tx` in the state `s0` that its rule prepared, and then returns `v` (R23). -/
def Completes (i : Instr) (tx : List Byte) (v : Value) (s s0 : State) : Prop :=
  exec i s = .next (afterXfer tx (.sent 0) s0) ∧
    exec i (afterXfer tx (.sent 0) s0) = .next (afterReturn i v (afterXfer tx (.sent 0) s0))

section
variable {i : Instr} {s s0 : State} {tx : List Byte} {v : Value}

/-- A primitive's second step is its ending (R23). -/
theorem oneXfer_sent (b : State) (ending : Host.Outcome State Fault Refusal) (h : BusyAt (.sent 0) s) :
    oneXfer i s b ending = ending := by
  obtain ⟨hb, hp⟩ := h
  have hf : s.seqState ≠ .fault := by simp [hb]
  rw [oneXfer, unlessFault_run i _ hf]
  simp only [hp]

/-- An operation of `oneXfer`'s shape completes where its checks pass and its ending returns. -/
theorem completes_of_oneXfer {b : State → State} {ending : State → Host.Outcome State Fault Refusal}
    (h : BusyAt .start s) (hexec : ∀ s, exec i s = oneXfer i s (b s) (ending s))
    (hb : b s = seqXfer tx (.sent 0) s0) (hs0 : s0.seqState = s.seqState)
    (he : ending (afterXfer tx (.sent 0) s0) = .next (finishOk i v (afterXfer tx (.sent 0) s0))) :
    Completes i tx v s s0 := by
  obtain ⟨hbusy, hstart⟩ := h
  have hsent : BusyAt (.sent 0) (afterXfer tx (.sent 0) s0) := ⟨hs0.trans hbusy, rfl⟩
  constructor
  · rw [hexec, oneXfer_start _ _ ⟨hbusy, hstart⟩, hb, seqXfer_eq]
  · rw [hexec, oneXfer_sent _ _ hsent, he, finishOk_eq]

/-- The bytes that came in after an instruction of `k` bytes are all that its `n` dummies brought in. -/
theorem drop_take_rx {k n : Nat} (hlen : tx.length = k + n) (d : Device) (e : Env) :
    ((deviceXfer tx d e).rx.drop k).take n = (deviceXfer tx d e).rx.drop k :=
  List.take_of_length_le (by simp [hlen])

theorem rxByte_afterXfer {k : Nat} (hk : k < tx.length) (p : Point) :
    rxByte (afterXfer tx p s) k = some ((deviceXfer tx s.dev s.env).rx.getD k 0) := by
  have hk : k < (deviceXfer tx s.dev s.env).rx.length := by rwa [deviceXfer_length]
  rw [List.getD_eq_getElem _ _ hk]
  exact List.getElem?_eq_getElem hk

end

/-! The operand checks let through what lies in R56's and R102's domains. -/

theorem badBurst_within {addr : Byte} {n : Nat} (h1 : 1 ≤ n) (h16 : n ≤ 16) (hend : addr.toNat + n ≤ 0x80) :
    ¬ badBurst addr n = true := by
  rw [badBurst_iff]
  omega

theorem badLoadTx_within {sel : Byte} {n : Nat} (hsel : sel.toNat ≤ 5) (h1 : 1 ≤ n)
    (hlen : n ≤ if sel.getLsbD 0 then 8 else 13) : ¬ badLoadTx sel n = true := by
  rw [badLoadTx_iff]
  omega

theorem badReadRx_within {sel : Byte} {n : Nat} (hsel : sel.toNat ≤ 3) (h1 : 1 ≤ n)
    (hlen : n ≤ if sel.getLsbD 0 then 8 else 13) : ¬ badReadRx sel n = true := by
  rw [badReadRx_iff]
  omega

theorem badRts_within {t : Byte} (h1 : 1 ≤ t.toNat) (h7 : t.toNat ≤ 7) : ¬ badRts t = true := by
  rw [badRts_iff]
  omega

theorem badAddr_within {addr : Byte} (h : addr.toNat ≤ 0x7F) : ¬ badAddr addr = true := by
  simpa [badAddr] using h

/-! Each primitive completes on the operands of its domain. -/

section
variable {s : State} (h : BusyAt .start s)
include h

theorem regRead_completes {addr : Byte} {n : Nat} (hok : ¬ badBurst addr n = true) :
    let tx := [0x03, addr] ++ List.replicate n 0x00
    Completes (.regRead addr n) tx (.bytes ((deviceXfer tx s.dev s.env).rx.drop 2)) s s := by
  refine completes_of_oneXfer h (fun _ => rfl) (if_neg hok) rfl ?_
  rw [← drop_take_rx (k := 2) (n := n) (by simp; omega)]
  rfl

theorem readRx_completes {sel : Byte} {n : Nat} (hsel : sel.toNat ≤ 3) (hok : ¬ badReadRx sel n = true) :
    let tx := [0x90 ||| (sel <<< 1)] ++ List.replicate n 0x00
    Completes (.readRx sel n) tx (.bytes ((deviceXfer tx s.dev s.env).rx.drop 1)) s s := by
  rw [← readRxByte_operand hsel]
  refine completes_of_oneXfer h (fun _ => rfl) (if_neg hok) rfl ?_
  rw [← drop_take_rx (k := 1) (n := n) (by simp; omega)]
  rfl

theorem readStatus_completes :
    Completes .readStatus [0xA0, 0x00] (.byte ((deviceXfer [0xA0, 0x00] s.dev s.env).rx.getD 1 0)) s s := by
  refine completes_of_oneXfer h (fun _ => rfl) rfl rfl ?_
  rw [rxByte_afterXfer (by decide), readScratch_some]

theorem rxStatus_completes :
    Completes .rxStatus [0xB0, 0x00] (.byte ((deviceXfer [0xB0, 0x00] s.dev s.env).rx.getD 1 0)) s s := by
  refine completes_of_oneXfer h (fun _ => rfl) rfl rfl ?_
  rw [rxByte_afterXfer (by decide), readScratch_some]

theorem spiReset_completes : Completes .spiReset [0xC0] .unit s (forgetDevice s) :=
  completes_of_oneXfer h (fun _ => rfl) rfl rfl rfl

theorem regWrite_completes {addr : Byte} {data : List Byte} (hok : ¬ badBurst addr data.length = true) :
    Completes (.regWrite addr data) ([0x02, addr] ++ data) .unit s s :=
  completes_of_oneXfer h (fun _ => rfl) (if_neg hok) rfl rfl

theorem bitModify_completes {addr : Byte} (mask data : Byte) (hok : ¬ badAddr addr = true) :
    Completes (.bitModify addr mask data) [0x05, addr, mask, data] .unit s s :=
  completes_of_oneXfer h (fun _ => rfl) (if_neg hok) rfl rfl

theorem rts_completes {t : Byte} (hok : ¬ badRts t = true) : Completes (.rts t) [0x80 ||| t] .unit s s := by
  rw [← rtsByte_operand t (Bool.eq_false_of_not_eq_true hok)]
  exact completes_of_oneXfer h (fun _ => rfl) (if_neg hok) rfl rfl

theorem loadTx_completes {sel : Byte} {data : List Byte} (hsel : sel.toNat ≤ 5)
    (hok : ¬ badLoadTx sel data.length = true) :
    Completes (.loadTx sel data) ([0x40 ||| sel] ++ data) .unit s s := by
  rw [← loadTxByte_operand hsel]
  exact completes_of_oneXfer h (fun _ => rfl) (if_neg hok) rfl rfl

end

/-- Settles O29: each primitive's checks pass on its domain, and it completes. -/
theorem writePrimitivesComplete : Obligations.WritePrimitivesComplete := by
  intro s h
  refine ⟨spiReset_completes h, fun addr data h1 h16 hend => ?write, fun addr mask data haddr => ?bitModify,
    fun t h1 h7 => ?rts, fun sel data hsel h1 hlen => ?loadTx⟩
  case write => exact regWrite_completes h (badBurst_within h1 h16 hend)
  case bitModify => exact bitModify_completes h mask data (badAddr_within haddr)
  case rts => exact rts_completes h (badRts_within h1 h7)
  case loadTx => exact loadTx_completes h hsel (badLoadTx_within hsel h1 hlen)

/-- Settles O30: each primitive's checks pass on its domain, and it completes with the bytes that came in after its
instruction's own. -/
theorem readPrimitivesComplete : Obligations.ReadPrimitivesComplete := by
  intro s h
  refine ⟨fun addr n h1 h16 hend => ?read, readStatus_completes h, rxStatus_completes h,
    fun sel n hsel h1 hlen => ?readRx⟩
  case read => exact regRead_completes h (badBurst_within h1 h16 hend)
  case readRx => exact readRx_completes h hsel (badReadRx_within hsel h1 hlen)

end Sys2Proof.Machine
end

section
/-! The composite operations position by position (R23): their admission (O33), INIT's checks (O34), ModeSet for its
three callers (O35, O36, O38), and the steps of SEND (O40), POLL_RECEIVE (O42), BUS_STATE (O44) and LISTEN (O45). -/

namespace Sys2Proof.Machine

/-! ### A rule at its position -/

section
variable {i : Instr} {p : Point} {s : State}

theorem unlessFault_busyAt (rule : Point → Host.Outcome State Fault Refusal) (h : BusyAt p s) :
    unlessFault i s rule = rule p := by
  obtain ⟨hb, hp⟩ := h
  rw [unlessFault_run i rule (by simp [hb]), hp]

theorem readScratch_of_eq {α : Type} {x : Option α} {a : α} (h : x = some a)
    (rule : α → Host.Outcome State Fault Refusal) : readScratch x rule = rule a := by
  rw [h, readScratch_some]

end

/-! ### Identifiers that fit -/

/-- The checks of R102 refuse exactly what does not fit its width (R13). -/
theorem badId_eq_not_fitsWidth (id : Id) (ext : Bool) : badId id ext = !fitsWidth id ext := by
  have hid : id.toNat < 2 ^ Config.extIdBits := id.isLt
  cases ext with
  | false =>
    have hstd : 2 ^ Config.stdIdBits ≤ 2 ^ Config.extIdBits := by decide
    simp [badId, fitsWidth, ← Bool.decide_or, ← decide_not]
    omega
  | true => simp [badId, fitsWidth, hid]

theorem badId_of_large {id : Id} {ext : Bool} (hext : ext = false) (h : 2 ^ 11 ≤ id.toNat) :
    badId id ext = true := by
  subst hext
  simpa [badId, Config.stdIdBits] using .inl h

theorem not_badId_of_wf {f : CanFrame} (h : f.wf = true) : badId f.id f.ext = false := by
  obtain ⟨-, hfits⟩ := Bool.and_eq_true_iff.mp h
  rw [badId_eq_not_fitsWidth, hfits, Bool.not_true]

theorem longCan_iff (n : Nat) : longCan n = true ↔ 8 < n := by simp [longCan, Config.maxCanPayload]

theorem not_longCan_of_wf {f : CanFrame} (h : f.wf = true) : ¬ longCan f.data.length = true := by
  obtain ⟨hlen, -⟩ := Bool.and_eq_true_iff.mp h
  rw [longCan_iff]
  exact Nat.not_lt.mpr (of_decide_eq_true hlen)

theorem not_badFilters_of_wf {fs : FilterSet} (h : fs.wf = true) : badFilters fs = false := by
  cases fs with
  | empty => rfl
  | full r =>
    refine List.any_eq_false.mpr fun x hx => ?_
    have hfits : fitsWidth x.value x.ext = true := List.all_eq_true.mp h x hx
    rw [badId_eq_not_fitsWidth, hfits, Bool.not_true]
    exact Bool.false_ne_true

/-! ### Admission -/

section
variable {s : State} (h : BusyAt .start s)
include h

theorem execSetMode_start (m : Mode) :
    exec (.setMode m) s =
      .next (if s.initialized then modeStart m .first s else raiseOp (.setMode m) .notInitialized 0x00 s) := by
  rw [exec, execSetMode, unlessFault_busyAt _ h]

theorem execSend_start (f : CanFrame) : exec (.send f) s = .next (sendBegin (.send f) f s) := by
  rw [exec, execSend, unlessFault_busyAt _ h]

theorem execPollReceive_start :
    exec .pollReceive s =
      .next (if s.initialized then seqXfer [0xA0, 0x00] (.sent 0) s
        else raiseOp .pollReceive .notInitialized 0x00 s) := by
  rw [exec, execPollReceive, unlessFault_busyAt _ h]
  rfl

theorem execBusState_start :
    exec .busState s =
      .next (if s.initialized then seqXfer [0x03, 0x2D, 0x00] (.sent 0) s
        else raiseOp .busState .notInitialized 0x00 s) := oneXfer_start _ _ h

theorem execListen_start (fs : FilterSet) : exec (.listen fs) s = .next (listenBegin (.listen fs) fs s) := by
  rw [exec, execListen.eq_def, unlessFault_busyAt _ h]

end

section
variable {f : CanFrame} {fs : FilterSet} (s : State)

theorem sendBegin_long (h : 8 < f.data.length) :
    sendBegin (.send f) f s =
      afterError (.legal (.send f)) .payloadTooLong (BitVec.ofNat 8 (min f.data.length 255)) s :=
  if_pos ((longCan_iff _).mpr h)

theorem sendBegin_badId (hlen : f.data.length ≤ 8) (hid : badId f.id f.ext = true) :
    sendBegin (.send f) f s = afterError (.legal (.send f)) .idOutOfRange 0x00 s := by
  rw [sendBegin, if_neg (by rw [longCan_iff]; omega), if_pos hid]
  rfl

/-- SEND with a well-formed frame: the last check is `initialized` (R152, R164). -/
theorem sendBegin_wf (h : f.wf = true) :
    sendBegin (.send f) f s =
      if s.initialized then afterXfer [0xA0, 0x00] (.sent 0) s
      else afterError (.legal (.send f)) .notInitialized 0x00 s := by
  rw [sendBegin, if_neg (not_longCan_of_wf h), not_badId_of_wf h, if_neg Bool.false_ne_true]
  rfl

theorem listenBegin_badId {r : FilterRecord} {x : IdSpec} (hx : x ∈ r.specs) (hid : badId x.value x.ext = true) :
    listenBegin (.listen (.full r)) (.full r) s =
      afterError (.legal (.listen (.full r))) .idOutOfRange 0x00 s :=
  if_pos (show badFilters (.full r) = true from List.any_eq_true.mpr ⟨x, hx, hid⟩)

/-- LISTEN with well-formed filters: then `initialized`, and last `filters_locked` (R152, R171). -/
theorem listenBegin_wf (h : fs.wf = true) :
    listenBegin (.listen fs) fs s =
      if s.initialized = false then afterError (.legal (.listen fs)) .notInitialized 0x00 s
      else if s.filtersLocked then afterError (.legal (.listen fs)) .filterLocked 0x00 s
      else
        afterXfer [0x05, 0x0F, 0xE0, 0x80] (.modeWritten .first)
          { s with attempt := 1, scratch := { s.scratch with prior := curModeKnown s.curMode } } := by
  rw [listenBegin, not_badFilters_of_wf h, if_neg Bool.false_ne_true]
  rfl

end

/-- Settles O33: each operation's first step, and its checks in their order (`sendBegin_wf`, `listenBegin_wf`). -/
theorem compositeAdmission : Obligations.CompositeAdmission := by
  intro s h
  refine ⟨fun f hlen => ?long, fun f hlen hext hid => ?sendId, fun r x hx hext hid => ?listenId,
    fun hinit => ⟨fun m => ?setMode, fun f hf => ?send, ?poll, ?bus, fun fs hfs => ?listen⟩,
    fun fs hfs hinit hlock => ?locked⟩
  case long => rw [execSend_start h, sendBegin_long s hlen]
  case sendId => rw [execSend_start h, sendBegin_badId s hlen (badId_of_large hext hid)]
  case listenId => rw [execListen_start h, listenBegin_badId s hx (badId_of_large hext hid)]
  case setMode =>
    show exec _ s = _
    rw [execSetMode_start h, hinit]
    rfl
  case send =>
    show exec _ s = _
    rw [execSend_start h, sendBegin_wf s hf, hinit]
    rfl
  case poll =>
    show exec _ s = _
    rw [execPollReceive_start h, hinit]
    rfl
  case bus =>
    show exec _ s = _
    rw [execBusState_start h, hinit]
    rfl
  case listen =>
    show exec _ s = _
    rw [execListen_start h, listenBegin_wf s hfs, if_pos hinit]
  case locked =>
    rw [execListen_start h, listenBegin_wf s hfs, if_neg (by simp [hinit]), if_pos hlock]

/-! ### INIT's checks -/

section
variable {bitrate crystal : Nat} {mode : Mode} {silent : Bool} {s : State}

theorem execInit_start (h : BusyAt .start s) :
    exec (.init bitrate crystal mode silent) s =
      .next (initBegin (.init bitrate crystal mode silent) bitrate crystal mode silent s) := by
  rw [exec, execInit, unlessFault_busyAt _ h]

theorem initBegin_config (i : Instr) (hmode : mode = .config) :
    initBegin i bitrate crystal mode silent s = afterError (.legal i) .illegalOperand 0x00 s := if_pos hmode

theorem initBegin_noEntry (i : Instr) (hmode : mode ≠ .config)
    (hentry : bitrateLookup s.cfg.bitrateTable bitrate crystal = none) :
    initBegin i bitrate crystal mode silent s = afterFatal i .unsupportedBitrate 0x10 0x00 s := by
  rw [initBegin, if_neg hmode, hentry]
  rfl

/-- With a supported bit rate the last check is that of loopback without silent (R160, R161). -/
theorem initBegin_entry (i : Instr) {e : BitrateEntry} (hmode : mode ≠ .config)
    (hentry : bitrateLookup s.cfg.bitrateTable bitrate crystal = some e) :
    initBegin i bitrate crystal mode silent s =
      if mode = .loopback ∧ silent = false then afterFatal i .invalidModeCombination 0x11 0x00 s
      else afterXfer [0xC0] (.sent 0) (forgetDevice s) := by
  rw [initBegin, if_neg hmode, hentry]
  rfl

end

/-- Settles O34: INIT's checks in their order (`initBegin_config`, `initBegin_noEntry`, `initBegin_entry`). -/
theorem initChecks : Obligations.InitChecks := by
  intro bitrate crystal mode silent s h
  dsimp only
  rw [execInit_start h]
  refine ⟨fun hmode => ?config, fun hmode hentry => ?noEntry, fun hentry hmode hsilent => ?loopback,
    fun hentry hmode hok => ?starts⟩
  case config => rw [initBegin_config _ hmode]
  case noEntry => rw [initBegin_noEntry _ hmode hentry]
  case loopback =>
    obtain ⟨e, he⟩ := Option.ne_none_iff_exists'.mp hentry
    rw [initBegin_entry _ (by simp [hmode]) he, if_pos ⟨hmode, hsilent⟩]
  case starts =>
    obtain ⟨e, he⟩ := Option.ne_none_iff_exists'.mp hentry
    rw [initBegin_entry _ hmode he, if_neg hok]
    rfl

/-! ### ModeSet -/

section
variable {i : Instr} {c : ModeCall} {m : Mode} {e : ErrorCode} {code : Byte} {s : State}

/-- ModeSet after its write, in each of its callers (R150). -/
theorem exec_modeWritten (h : BusyAt (.modeWritten c) s) (hcall : modeCallOf i c s.scratch ≠ none) :
    exec i s = .next (modePoll c s) := by
  cases i with
  | init => rw [exec, execInit, unlessFault_busyAt _ h]
  | listen => rw [exec, execListen.eq_def, unlessFault_busyAt _ h]
  | setMode =>
    cases c with
    | first => rw [exec, execSetMode, unlessFault_busyAt _ h]
    | second => exact absurd rfl hcall
  | _ => exact absurd rfl hcall

/-- ModeSet after its poll, in each of its callers: `rest` is how the caller goes on (R150, R160, R162, R171). -/
theorem exec_modePolled (h : BusyAt (.modePolled c) s) (hcall : modeCallOf i c s.scratch = some (m, e, code)) :
    errorFatal e = true ∧ errorCode e = code ∧ ∃ rest, exec i s = modePolledStep i m c e s rest := by
  cases i with
  | init =>
    cases c <;> cases hcall
    · exact ⟨rfl, rfl, _, by rw [exec, execInit, unlessFault_busyAt _ h]⟩
    · exact ⟨rfl, rfl, _, by rw [exec, execInit, unlessFault_busyAt _ h]⟩
  | setMode =>
    cases c <;> cases hcall
    exact ⟨rfl, rfl, _, by rw [exec, execSetMode, unlessFault_busyAt _ h]⟩
  | listen =>
    cases c with
    | first =>
      cases hcall
      exact ⟨rfl, rfl, _, by rw [exec, execListen.eq_def, unlessFault_busyAt _ h]⟩
    | second =>
      obtain ⟨m', hprior, hm⟩ := Option.map_eq_some_iff.mp hcall
      cases hm
      exact ⟨rfl, rfl, _, by
        rw [exec, execListen.eq_def, unlessFault_busyAt _ h]
        exact readScratch_of_eq hprior _⟩
  | _ => cases hcall

/-- A poll that shows the mode returns to the caller (R150). -/
theorem modePolledStep_confirmed {canstat : Byte} (hrx : rxByte s 2 = some canstat)
    (hmode : canstat.extractLsb' 5 3 = modeCode m) (rest : State → Host.Outcome State Fault Refusal) :
    modePolledStep i m c e s rest = rest (modeConfirmed m s) := by
  rw [modePolledStep, readScratch_of_eq hrx]
  obtain ⟨-, heq⟩ | ⟨hne, -⟩ := modeCheck_cases m c canstat s
  · rw [heq]
    rfl
  · exact absurd hmode hne

end

/-- Settles O36: what the check of the poll can lead to (`modeCheck_cases`) is the same in every caller
(`exec_modePolled`). -/
theorem modeSetUnconfirmed : Obligations.ModeSetUnconfirmed := by
  intro i c m e code canstat expired env s h hcall hrx hne hdraw
  obtain ⟨hfatal, hcode, rest, hexec⟩ := exec_modePolled h hcall
  rw [hexec, modePolledStep, readScratch_of_eq hrx]
  obtain ⟨heq, -⟩ | ⟨-, hcases⟩ := modeCheck_cases m c canstat s
  · exact absurd heq hne
  rw [hdraw] at hcases
  obtain ⟨hexp, heq⟩ | ⟨hexp, hlt, heq⟩ | ⟨hexp, hge, heq⟩ := hcases
  · rw [heq]
    refine ⟨fun _ => rfl, fun ht => ?_, fun ht => ?_⟩
    · cases hexp.symm.trans ht
    · cases hexp.symm.trans ht
  · rw [heq]
    refine ⟨fun hf => ?_, fun _ _ => rfl, fun _ hge => absurd hlt (Nat.not_lt.mpr hge)⟩
    cases hexp.symm.trans hf
  · rw [heq]
    refine ⟨fun hf => ?_, fun _ hlt => absurd hlt hge, fun _ _ => ?_⟩
    · cases hexp.symm.trans hf
    · dsimp only
      rw [raiseOp_fatal _ _ _ hfatal, hcode]
      rfl

/-- Settles O35: the frames are evaluated, the polls are `exec_modeWritten`, and each ModeSet starts at a position of
its caller's rule. -/
theorem modeSetWritesAndPolls : Obligations.ModeSetWritesAndPolls := by
  refine ⟨by decide, by decide, by decide, by decide, fun i c s h hcall => exec_modeWritten h hcall,
    fun m s h hinit => ?setMode, fun b x m q s h => ?first, fun b x m q s h => ?second⟩
  case setMode =>
    rw [execSetMode_start h, if_pos hinit]
    rfl
  case first | second =>
    rw [exec, execInit, unlessFault_busyAt _ h]
    rfl

/-- Settles O38: the poll is that of SET_MODE's ModeSet, or of INIT's second (`modePolledStep_confirmed`). -/
theorem modeSetConfirmed : Obligations.ModeSetConfirmed := by
  intro mode canstat s hrx hmode
  refine ⟨fun h => ?_, fun bitrate crystal silent h => ?_⟩
  · rw [exec, execSetMode, unlessFault_busyAt _ h]
    exact modePolledStep_confirmed hrx hmode _
  · rw [exec, execInit, unlessFault_busyAt _ h]
    exact modePolledStep_confirmed hrx hmode _

/-! ### SEND -/

section
variable {f : CanFrame} {s : State}

theorem execSend_sent0 {st : Byte} (h : BusyAt (.sent 0) s) (hst : rxByte s 1 = some st) :
    exec (.send f) s = .next (sendLoad (.send f) f st s) := by
  rw [exec, execSend, unlessFault_busyAt _ h]
  exact readScratch_of_eq hst _

/-- With a free buffer SEND loads it from its SIDH (R164, R165). -/
theorem sendLoad_free {st : Byte} {sel : Fin Config.nTxBuf} (hfree : freeTxBuffer st = some sel) :
    sendLoad (.send f) f st s =
      afterXfer ([0x02, txbSidhByte sel] ++ encFrameBytes f) (.sent 1)
        { s with scratch := { s.scratch with st := some st, sel := some sel } } := by
  rw [sendLoad, hfree]
  rfl

theorem sendLoad_none {st : Byte} (hfree : freeTxBuffer st = none) :
    sendLoad (.send f) f st s =
      afterError (.legal (.send f)) .noBufferAvailable st { s with scratch := { s.scratch with st := some st } } := by
  rw [sendLoad, hfree]
  rfl

theorem execSend_sent1 {sel : Fin Config.nTxBuf} (h : BusyAt (.sent 1) s) (hsel : s.scratch.sel = some sel) :
    exec (.send f) s = .next (afterXfer [rtsByte (BitVec.twoPow 3 sel.val)] (.sent 2) s) := by
  rw [exec, execSend, unlessFault_busyAt _ h]
  exact readScratch_of_eq hsel _

theorem execSend_sent2 {sel : Fin Config.nTxBuf} (h : BusyAt (.sent 2) s) (hsel : s.scratch.sel = some sel) :
    exec (.send f) s = .next (afterReturn (.send f) (.index sel.val) s) := by
  rw [exec, execSend, unlessFault_busyAt _ h]
  exact readScratch_of_eq hsel _

end

/-- The buffers whose TXREQ bits 2, 4 and 6 are set are passed over (R164, R165). -/
theorem freeTxBuffer_eq_some {st : Byte} {sel : Fin Config.nTxBuf}
    (htaken : ∀ k < sel.val, st.getLsbD (2 + 2 * k) = true) (hfree : st.getLsbD (2 + 2 * sel.val) = false) :
    freeTxBuffer st = some sel := by
  revert st sel; decide +kernel

theorem freeTxBuffer_eq_none {st : Byte} (htaken : ∀ k < 3, st.getLsbD (2 + 2 * k) = true) :
    freeTxBuffer st = none := by
  revert st; decide +kernel

/-- Settles O40: the step at each position, and the buffer by `freeTxBuffer_eq_some` and `freeTxBuffer_eq_none`. -/
theorem sendSteps : Obligations.SendSteps := by
  intro f s
  refine ⟨fun h hinit hf => ?start, fun st h hst => ?load, fun sel h hsel => ?request,
    fun sel h hsel => execSend_sent2 h hsel⟩
  case start => rw [execSend_start h, sendBegin_wf s hf, if_pos hinit]
  case load =>
    have taken {n : Nat} : (∀ k < n + 1, st.getLsbD (2 + 2 * k) = true) ↔
        (∀ k < n, st.getLsbD (2 + 2 * k) = true) ∧ st.getLsbD (2 + 2 * n) = true := Nat.forall_lt_succ_right
    rw [execSend_sent0 h hst]
    refine ⟨fun h2 => ?_, fun h2 h4 => ?_, fun h2 h4 h6 => ?_, fun h2 h4 h6 => ?_⟩
    · rw [sendLoad_free (freeTxBuffer_eq_some (sel := 0) nofun h2)]
      rfl
    · rw [sendLoad_free (freeTxBuffer_eq_some (sel := 1) (taken.mpr ⟨nofun, h2⟩) h4)]
      rfl
    · rw [sendLoad_free (freeTxBuffer_eq_some (sel := 2) (taken.mpr ⟨taken.mpr ⟨nofun, h2⟩, h4⟩) h6)]
      rfl
    · rw [sendLoad_none (freeTxBuffer_eq_none (taken.mpr ⟨taken.mpr ⟨taken.mpr ⟨nofun, h2⟩, h4⟩, h6⟩))]
  case request =>
    have hbyte : ∀ n : Fin Config.nTxBuf,
        rtsByte (BitVec.twoPow 3 n.val) = 0x80 ||| BitVec.ofNat 8 (2 ^ n.val) := by decide
    rw [execSend_sent1 h hsel, hbyte]

/-! ### POLL_RECEIVE -/

section
variable {s : State} {x st : Byte} {img : BufferImage}

theorem execPollReceive_sent0 (h : BusyAt (.sent 0) s) (hst : rxByte s 1 = some st) :
    exec .pollReceive s = .next (pollFirst st { s with scratch := { s.scratch with st := some st } }) := by
  rw [exec, execPollReceive, unlessFault_busyAt _ h]
  exact readScratch_of_eq hst _

theorem execPollReceive_sent1 (h : BusyAt (.sent 1) s) (hrx : s.scratch.rx = some (x :: imageBytes img))
    (hst : s.scratch.st = some st) :
    exec .pollReceive s = .next (pollSecond st (pollPush (imageBytes img) img s)) := by
  rw [exec, execPollReceive, unlessFault_busyAt _ h]
  exact (readScratch_of_eq hrx _).trans (readScratch_of_eq hst _)

theorem execPollReceive_sent2 (h : BusyAt (.sent 2) s) (hrx : s.scratch.rx = some (x :: imageBytes img)) :
    exec .pollReceive s = .next (pollDrain (pollPush (imageBytes img) img s)) := by
  rw [exec, execPollReceive, unlessFault_busyAt _ h]
  exact readScratch_of_eq hrx _

end

/-- Settles O42, by the step at each position. -/
theorem pollReceiveSteps : Obligations.PollReceiveSteps := by
  intro s
  refine ⟨fun h hinit => ?start, fun st h hst => execPollReceive_sent0 h hst,
    fun x st img h hrx hst => execPollReceive_sent1 h hrx hst, fun x img h hrx => execPollReceive_sent2 h hrx⟩
  case start =>
    rw [execPollReceive_start h, if_pos hinit]
    rfl

/-! ### BUS_STATE -/

/-- The state an EFLG byte means: bus-off, then error-passive, then a warning (R168). -/
theorem busStateOf_eq (e : Byte) :
    busStateOf e =
      if e.getLsbD 5 then .busOff else if e.getLsbD 4 || e.getLsbD 3 then .errorPassive
      else if e.getLsbD 2 || e.getLsbD 1 || e.getLsbD 0 then .errorWarning else .errorActive := rfl

theorem execBusState_sent0 {s : State} {e : Byte} (h : BusyAt (.sent 0) s) (he : rxByte s 2 = some e) :
    exec .busState s = .next (afterReturn .busState (.bus (busStateOf e)) s) :=
  (oneXfer_sent _ _ h).trans (readScratch_of_eq he _)

/-- Settles O44: the two steps, and `busStateOf_eq`. -/
theorem busStateCompletes : Obligations.BusStateCompletes := by
  intro s
  refine ⟨fun h hinit => ?start, fun e h he => ?returns⟩
  case start =>
    rw [execBusState_start h, if_pos hinit]
    rfl
  case returns =>
    dsimp only
    rw [execBusState_sent0 h he, busStateOf_eq]
    refine ⟨fun h5 => ?_, fun h5 h43 => ?_, fun h5 h43 h210 => ?_, fun h5 h43 h210 => ?_⟩
    · rw [h5, if_pos rfl]
    · rw [h5, h43, if_neg Bool.false_ne_true, if_pos rfl]
    · rw [h5, h43, h210, if_neg Bool.false_ne_true, if_neg Bool.false_ne_true, if_pos rfl]
    · rw [h5, h43, h210, if_neg Bool.false_ne_true, if_neg Bool.false_ne_true, if_neg Bool.false_ne_true]

/-! ### LISTEN -/

section
variable {fs : FilterSet} {r : FilterRecord} {m : Mode} {canstat : Byte} {s : State}

theorem execListen_configured (h : BusyAt (.modePolled .first) s) (hrx : rxByte s 2 = some canstat)
    (hmode : canstat.extractLsb' 5 3 = 0b100#3) :
    exec (.listen fs) s = .next (afterXfer (maskFrame fs) (.sent 0) (modeConfirmed .config s)) := by
  rw [exec, execListen.eq_def, unlessFault_busyAt _ h]
  exact modePolledStep_confirmed (m := .config) hrx hmode _

theorem execListen_sent0 (h : BusyAt (.sent 0) s) :
    exec (.listen (.full r)) s = .next (afterXfer (filterFrameLow r) (.sent 1) s) := by
  rw [exec, execListen.eq_def, unlessFault_busyAt _ h]
  rfl

theorem execListen_sent1 (h : BusyAt (.sent 1) s) :
    exec (.listen (.full r)) s = .next (afterXfer (filterFrameHigh r) (.sent 2) s) := by
  rw [exec, execListen.eq_def, unlessFault_busyAt _ h]
  rfl

/-- After its last write LISTEN brings back the mode in `prior` (R171). -/
theorem execListen_restore (hprior : s.scratch.prior = some m)
    (h : (fs = .empty ∧ BusyAt (.sent 0) s) ∨ (fs ≠ .empty ∧ BusyAt (.sent 2) s)) :
    exec (.listen fs) s = .next (modeStart m .second s) := by
  obtain ⟨rfl, hp⟩ | ⟨hfull, hp⟩ := h
  · rw [exec, execListen.eq_def, unlessFault_busyAt _ hp]
    exact readScratch_of_eq hprior _
  · cases fs with
    | empty => exact absurd rfl hfull
    | full r =>
      rw [exec, execListen.eq_def, unlessFault_busyAt _ hp]
      exact readScratch_of_eq hprior _

theorem execListen_restored (hprior : s.scratch.prior = some m) (h : BusyAt (.modePolled .second) s)
    (hrx : rxByte s 2 = some canstat) (hmode : canstat.extractLsb' 5 3 = modeCode m) :
    exec (.listen fs) s =
      .next (afterReturn (.listen fs) .unit { modeConfirmed m s with filtersLocked := true }) := by
  rw [exec, execListen.eq_def, unlessFault_busyAt _ h]
  exact (readScratch_of_eq hprior _).trans (modePolledStep_confirmed hrx hmode _)

end

/-- Settles O45, by the step at each position. -/
theorem listenSteps : Obligations.ListenSteps := by
  intro fs s
  refine ⟨fun h hfs hinit hlock => ?start, fun canstat h hrx hmode => ?masks, fun r hr h => ?low,
    fun r hr h => ?high, fun m hprior h => execListen_restore hprior h,
    fun m canstat hprior h hrx hmode => execListen_restored hprior h hrx hmode⟩
  case start =>
    dsimp only
    rw [execListen_start h, listenBegin_wf s hfs, if_neg (by simp [hinit]), if_neg (by simp [hlock])]
  case masks =>
    dsimp only
    rw [execListen_configured h hrx hmode]
    cases fs with
    | empty => rfl
    | full r => rfl
  case low =>
    subst hr
    exact execListen_sent0 h
  case high =>
    subst hr
    exact execListen_sent1 h

end Sys2Proof.Machine
end

section
/-! Whole operations over any device, step after step: INIT's programming of the chip (O37), SEND (O41) and
POLL_RECEIVE (O43). -/

namespace Sys2Proof.Machine

/-! ### Runs and the frames they send -/

section
variable {i : Instr} {s t : State} {n : Nat}

theorem execRun_succ (h : exec i s = .next t) (n : Nat) : execRun i (n + 1) s = execRun i n t := by
  rw [execRun, h]

theorem execRun_add {m : Nat} (h : execRun i m s = .next t) (n : Nat) : execRun i (m + n) s = execRun i n t := by
  induction m generalizing s with
  | zero =>
    cases h
    rw [Nat.zero_add]
  | succ m ih =>
    rw [Nat.succ_add, execRun]
    rw [execRun] at h
    cases hexec : exec i s with
    | next s' =>
      rw [hexec] at h
      exact ih h
    | fault f => rw [hexec] at h; cases h
    | refused r => rw [hexec] at h; cases h

end

theorem mosi_append (es es' : List Event) : mosi (es ++ es') = mosi es ++ mosi es' := by
  induction es with
  | nil => rfl
  | cons e es ih => cases e <;> simp [mosi, ih]

section
variable (s : State)

@[simp] theorem mosi_afterXfer (tx : List Byte) (p : Point) :
    mosi (afterXfer tx p s).history = mosi s.history ++ [tx] := mosi_append ..

@[simp] theorem mosi_afterReturn (i : Instr) (v : Value) : mosi (afterReturn i v s).history = mosi s.history :=
  (mosi_append ..).trans (List.append_nil _)

@[simp] theorem mosi_afterError (o : Operation) (e : ErrorCode) (info : Byte) :
    mosi (afterError o e info s).history = mosi s.history := (mosi_append ..).trans (List.append_nil _)

@[simp] theorem mosi_modeStart (m : Mode) (c : ModeCall) :
    mosi (modeStart m c s).history = mosi s.history ++ [modeWriteFrame m] := mosi_append ..

@[simp] theorem mosi_modePoll (c : ModeCall) :
    mosi (modePoll c s).history = mosi s.history ++ [[0x03, 0x0E, 0x00]] := mosi_append ..

end

/-- From `s` SEQ made `n` transactions and no more: only the position, the last bytes that came in, the device, its
draws and the history have changed (R10, R23). -/
def Transacted (n : Nat) (s t : State) : Prop :=
  t =
    { s with
      step := s.step + n
      scratch := { s.scratch with rx := t.scratch.rx, point := t.scratch.point }
      dev := t.dev
      env := t.env
      history := t.history }

theorem afterXfer_transacted (tx : List Byte) (p : Point) (s : State) : Transacted 1 s (afterXfer tx p s) := rfl

theorem Transacted.trans {m n : Nat} {s s' s'' : State} (h : Transacted m s s') (h' : Transacted n s' s'') :
    Transacted (m + n) s s'' := by
  unfold Transacted at h'
  rw [h, Nat.add_assoc] at h'
  exact h'

section
variable {n : Nat} {s t : State}

theorem Transacted.seqState (h : Transacted n s t) : t.seqState = s.seqState := by rw [h]
theorem Transacted.step (h : Transacted n s t) : t.step = s.step + n := by rw [h]
theorem Transacted.attempt (h : Transacted n s t) : t.attempt = s.attempt := by rw [h]
theorem Transacted.initialized (h : Transacted n s t) : t.initialized = s.initialized := by rw [h]
theorem Transacted.curMode (h : Transacted n s t) : t.curMode = s.curMode := by rw [h]
theorem Transacted.filtersLocked (h : Transacted n s t) : t.filtersLocked = s.filtersLocked := by rw [h]
theorem Transacted.result (h : Transacted n s t) : t.result = s.result := by rw [h]
theorem Transacted.rxFifo (h : Transacted n s t) : t.rxFifo = s.rxFifo := by rw [h]
theorem Transacted.op (h : Transacted n s t) : t.op = s.op := by rw [h]
theorem Transacted.faultCode (h : Transacted n s t) : t.faultCode = s.faultCode := by rw [h]
theorem Transacted.st (h : Transacted n s t) : t.scratch.st = s.scratch.st := congrArg (·.scratch.st) h
theorem Transacted.sel (h : Transacted n s t) : t.scratch.sel = s.scratch.sel := congrArg (·.scratch.sel) h
theorem Transacted.buf (h : Transacted n s t) : t.scratch.buf = s.scratch.buf := congrArg (·.scratch.buf) h
theorem Transacted.prior (h : Transacted n s t) : t.scratch.prior = s.scratch.prior := congrArg (·.scratch.prior) h
theorem Transacted.urx (h : Transacted n s t) : t.urx = s.urx := by rw [h]
theorem Transacted.uartTx (h : Transacted n s t) : t.uartTx = s.uartTx := by rw [h]
theorem Transacted.cfg (h : Transacted n s t) : t.cfg = s.cfg := by rw [h]

/-- A ModeSet that starts after `n` transactions. -/
theorem Transacted.modeStart (h : Transacted n s t) (m : Mode) (c : ModeCall) :
    Transacted (n + 1) { s with attempt := 1 } (modeStart m c t) := by
  have hattempt : Transacted n { s with attempt := 1 } { t with attempt := 1 } := by
    unfold Transacted at h ⊢
    exact congrArg (fun u : State => { u with attempt := 1 }) h
  exact hattempt.trans (afterXfer_transacted _ _ _)

end

/-! ### INIT's programming of the chip -/

section
variable {bitrate crystal : Nat} {mode : Mode} {silent : Bool} {s : State}

/-- From configuration mode confirmed, INIT's write of the bit timing (R160). -/
theorem execInit_configured {e : BitrateEntry} {canstat : Byte} (h : BusyAt (.modePolled .first) s)
    (he : bitrateLookup s.cfg.bitrateTable bitrate crystal = some e) (hrx : rxByte s 2 = some canstat)
    (hmode : canstat.extractLsb' 5 3 = 0b100#3) :
    exec (.init bitrate crystal mode silent) s =
      .next (afterXfer [0x02, 0x28, e.cnf3, e.cnf2, e.cnf1] (.sent 1) (modeConfirmed .config s)) := by
  rw [exec, execInit, unlessFault_busyAt _ h]
  exact (modePolledStep_confirmed (m := .config) hrx hmode _).trans (readScratch_of_eq he _)

/-- INIT's writes after that one (R160). -/
theorem execInit_sent {k : Nat} (hk : 1 ≤ k) (hk7 : k ≤ 7) (h : BusyAt (.sent k) s) :
    exec (.init bitrate crystal mode silent) s =
      .next (afterXfer ((initFrame k).getD []) (.sent (k + 1)) s) := by
  rw [exec, execInit, unlessFault_busyAt _ h]
  interval_cases k <;> rfl

theorem execInit_sent8 (h : BusyAt (.sent 8) s) :
    exec (.init bitrate crystal mode silent) s = .next (modeStart mode .second s) := by
  rw [exec, execInit, unlessFault_busyAt _ h]
  rfl

/-- `n` of INIT's writes, from its k-th transaction on. -/
def initWrites : Nat → Nat → State → State
  | 0, _, s => s
  | n + 1, k, s => initWrites n (k + 1) (afterXfer ((initFrame k).getD []) (.sent (k + 1)) s)

theorem execRun_initWrites {n k : Nat} (hk : 1 ≤ k) (hn : k + n ≤ 8) (h : BusyAt (.sent k) s) :
    execRun (.init bitrate crystal mode silent) n s = .next (initWrites n k s) := by
  induction n generalizing k s with
  | zero => rfl
  | succ n ih =>
    have hb := h.1
    rw [execRun_succ (execInit_sent hk (by omega) h)]
    exact ih (Nat.le_add_left 1 k) (by omega) ⟨hb, rfl⟩

theorem initWrites_transacted (n k : Nat) (s : State) : Transacted n s (initWrites n k s) := by
  induction n generalizing k s with
  | zero => rfl
  | succ n ih =>
    have hrest := ih (k + 1) (afterXfer ((initFrame k).getD []) (.sent (k + 1)) s)
    have hall := (afterXfer_transacted _ _ s).trans hrest
    rwa [Nat.add_comm] at hall

/-- The state after INIT's eight writes. -/
def initProgrammed (e : BitrateEntry) (s : State) : State :=
  initWrites 7 1 (afterXfer [0x02, 0x28, e.cnf3, e.cnf2, e.cnf1] (.sent 1) (modeConfirmed .config s))

theorem initProgrammed_transacted (e : BitrateEntry) (s : State) :
    Transacted (1 + 7) (modeConfirmed .config s) (initProgrammed e s) := by
  have hfirst := afterXfer_transacted [0x02, 0x28, e.cnf3, e.cnf2, e.cnf1] (.sent 1) (modeConfirmed .config s)
  exact hfirst.trans (initWrites_transacted 7 1 _)

theorem initWrites_point (n k : Nat) (s : State) (h : s.scratch.point = .sent k) :
    (initWrites n k s).scratch.point = .sent (k + n) := by
  induction n generalizing k s with
  | zero => exact h
  | succ n ih =>
    rw [initWrites, ih (k + 1) _ rfl, Nat.add_right_comm, Nat.add_assoc]

theorem busyAt_initProgrammed (e : BitrateEntry) (h : s.seqState = .busy) :
    BusyAt (.sent 8) (initProgrammed e s) :=
  ⟨(initProgrammed_transacted e s).seqState.trans h, initWrites_point 7 1 _ rfl⟩

/-- INIT from configuration mode confirmed to its second ModeSet (R160). -/
theorem execRun_initProgrammed {e : BitrateEntry} {canstat : Byte} (h : BusyAt (.modePolled .first) s)
    (he : bitrateLookup s.cfg.bitrateTable bitrate crystal = some e) (hrx : rxByte s 2 = some canstat)
    (hmode : canstat.extractLsb' 5 3 = 0b100#3) :
    execRun (.init bitrate crystal mode silent) 9 s = .next (modeStart mode .second (initProgrammed e s)) := by
  have hb := h.1
  have hwrites := execRun_initWrites (bitrate := bitrate) (crystal := crystal) (mode := mode) (silent := silent)
    (n := 7) (s := afterXfer [0x02, 0x28, e.cnf3, e.cnf2, e.cnf1] (.sent 1) (modeConfirmed .config s))
    (Nat.le_refl 1) (Nat.le_refl 8) ⟨hb, rfl⟩
  have hend : exec (.init bitrate crystal mode silent) (initProgrammed e s) =
      .next (modeStart mode .second (initProgrammed e s)) := execInit_sent8 (busyAt_initProgrammed e hb)
  rw [execRun_succ (execInit_configured h he hrx hmode)]
  exact (execRun_add hwrites 1).trans (execRun_succ hend 0)

theorem mosi_initProgrammed (e : BitrateEntry) (s : State) :
    mosi (initProgrammed e s).history =
      mosi s.history ++
        [[0x02, 0x28, e.cnf3, e.cnf2, e.cnf1], [0x02, 0x30, 0x00], [0x02, 0x40, 0x00], [0x02, 0x50, 0x00],
          [0x02, 0x60, 0x00], [0x02, 0x70, 0x00], [0x02, 0x2B, 0x03], [0x05, 0x60, 0x04, 0x04]] := by
  simp only [initProgrammed, initWrites, mosi_afterXfer, List.append_assoc]
  rfl

end

/-- Settles O37: the run is `execRun_initProgrammed`, of nine transactions (`initProgrammed_transacted`). -/
theorem initProgramsTheChip : Obligations.InitProgramsTheChip := by
  intro bitrate crystal mode silent e canstat s h he hrx hmode
  refine ⟨execInit_configured h he hrx hmode, _, execRun_initProgrammed h he hrx hmode, ?_⟩
  have ht := (initProgrammed_transacted e s).modeStart mode .second
  have hmosi : mosi (modeStart mode .second (initProgrammed e s)).history = _ := mosi_modeStart ..
  rw [mosi_initProgrammed, List.append_assoc] at hmosi
  have hpoint : (modeStart mode .second (initProgrammed e s)).scratch.point = .modeWritten .second := rfl
  generalize modeStart mode .second (initProgrammed e s) = t at ht hmosi hpoint
  exact ⟨⟨ht.seqState.trans h.1, hpoint⟩, ht.attempt, ht.step, ht.curMode, ht.initialized, ht.filtersLocked,
    ht.result, ht.rxFifo, ht.op, ht.faultCode, ht.st, ht.sel, ht.buf, ht.prior, ht.urx, ht.uartTx, ht.cfg, hmosi⟩

/-! ### SEND -/

section
variable {f : CanFrame} {s : State}

/-- SEND's first two steps: the status byte selects a buffer (R164). -/
theorem execRun_sendLoad (h : BusyAt .start s) (hinit : s.initialized = true) (hf : f.wf = true) (n : Nat) :
    execRun (.send f) (n + 2) s =
      execRun (.send f) n
        (sendLoad (.send f) f ((deviceXfer [0xA0, 0x00] s.dev s.env).rx.getD 1 0)
          (afterXfer [0xA0, 0x00] (.sent 0) s)) := by
  have hb := h.1
  have hstart : exec (.send f) s = .next (afterXfer [0xA0, 0x00] (.sent 0) s) := by
    rw [execSend_start h, sendBegin_wf s hf, if_pos hinit]
  rw [execRun_succ hstart]
  exact execRun_succ
    (execSend_sent0 (s := afterXfer [0xA0, 0x00] (.sent 0) s) ⟨hb, rfl⟩ (rxByte_afterXfer (by decide) _)) n

/-- SEND's last two steps, with a loaded buffer (R164). -/
theorem execRun_sendRequest {sel : Fin Config.nTxBuf} (h : BusyAt (.sent 1) s) (hsel : s.scratch.sel = some sel) :
    execRun (.send f) 2 s =
      .next (afterReturn (.send f) (.index sel.val) (afterXfer [rtsByte (BitVec.twoPow 3 sel.val)] (.sent 2) s)) := by
  have hb := h.1
  rw [execRun_succ (execSend_sent1 h hsel)]
  exact execRun_succ (execSend_sent2 (s := afterXfer _ (.sent 2) s) ⟨hb, rfl⟩ hsel) 0

end

/-- The bytes of SEND's load and request, for the buffers 0 to 2 (R164). -/
theorem sendBytes_eq (sel : Fin Config.nTxBuf) :
    txbSidhByte sel = BitVec.ofNat 8 (0x31 + 0x10 * sel.val) ∧
      rtsByte (BitVec.twoPow 3 sel.val) = BitVec.ofNat 8 (0x80 + 2 ^ sel.val) := by
  revert sel; decide

/-- Settles O41: the two steps up to the buffer's selection, and the two after it. -/
theorem sendRuns : Obligations.SendRuns := by
  intro f s h hinit hf
  dsimp only
  have hb := h.1
  refine ⟨fun sel hsel htaken hfree => ?free, fun htaken => ?none⟩
  case free =>
    obtain ⟨hsidh, hrts⟩ := sendBytes_eq ⟨sel, hsel⟩
    rw [execRun_sendLoad h hinit hf, sendLoad_free (freeTxBuffer_eq_some (sel := ⟨sel, hsel⟩) htaken hfree)]
    refine ⟨_, execRun_sendRequest (sel := ⟨sel, hsel⟩) ⟨hb, rfl⟩ rfl, rfl, rfl, rfl, hinit, rfl, rfl, rfl,
      rfl, rfl, rfl, rfl, rfl, rfl, ?_⟩
    rw [mosi_afterReturn, mosi_afterXfer, mosi_afterXfer, mosi_afterXfer, hrts, hsidh, List.append_assoc,
      List.append_assoc]
    rfl
  case none =>
    rw [execRun_sendLoad h hinit hf, sendLoad_none (freeTxBuffer_eq_none htaken)]
    exact ⟨_, rfl, rfl, rfl, rfl, hinit, rfl, rfl, rfl, rfl, rfl, rfl, rfl, rfl, rfl,
      (mosi_afterError ..).trans (mosi_afterXfer s [0xA0, 0x00] (.sent 0))⟩

/-! ### POLL_RECEIVE -/

/-- A SEQ step that ended with a transaction in which the environment's bytes `rx` came in, `more` being those after
them. -/
def received (tx rx more : List Byte) (p : Point) (s : State) : State :=
  { s with
    step := s.step + 1
    scratch := { s.scratch with rx := some rx, point := p }
    env := { s.env with miso := more }
    history := s.history ++ [.spi tx rx] }

/-- With nothing assumed of the device, a transaction brings in the bytes that the environment has fixed (R60). -/
theorem afterXfer_given {rx more : List Byte} {s : State} (tx : List Byte) (p : Point) (hl : s.dev.law = .any)
    (h : s.env.miso = rx ++ more) (hlen : rx.length = tx.length) : afterXfer tx p s = received tx rx more p s := by
  have hxfer : deviceXfer tx s.dev s.env = ⟨rx, s.dev, { s.env with miso := more }⟩ := by
    rw [deviceXfer_any tx _ _ hl, ← hlen, drawBytes_given rx more s.env h]
  rw [afterXfer, hxfer]
  rfl

section
variable {s : State} {st y : Byte} {img : BufferImage} {more : List Byte}

theorem pollFirst_clear (h : st.getLsbD 0 = false) (s : State) : pollFirst st s = pollSecond st s :=
  if_neg (Bool.eq_false_iff.mp h)

theorem pollFirst_set (h : st.getLsbD 0 = true) (s : State) :
    pollFirst st s = afterXfer (pollFrame 0) (.sent 1) s := if_pos h

theorem pollSecond_clear (h : st.getLsbD 1 = false) (s : State) : pollSecond st s = pollDrain s :=
  if_neg (Bool.eq_false_iff.mp h)

theorem pollSecond_set (h : st.getLsbD 1 = true) (s : State) :
    pollSecond st s = afterXfer (pollFrame 1) (.sent 2) s := if_pos h

/-- The state after the read of receive buffer n, with its frame in the FIFO (R166). -/
def pollRead (n : Fin Config.nRxBuf) (y : Byte) (img : BufferImage) (more : List Byte) (p : Point) (s : State) :
    State := pollPush (imageBytes img) img (received (pollFrame n) (y :: imageBytes img) more p s)

/-- The read of RXB0 where its flag is set (R166). -/
theorem execRun_pollFirst (hb : s.seqState = .busy) (hl : s.dev.law = .any) (h0 : st.getLsbD 0 = true)
    (hst : s.scratch.st = some st) (hm : s.env.miso = (y :: imageBytes img) ++ more) (n : Nat) :
    execRun .pollReceive (n + 1) (pollFirst st s) =
      execRun .pollReceive n (pollSecond st (pollRead 0 y img more (.sent 1) s)) := by
  rw [pollFirst_set h0, afterXfer_given (pollFrame 0) _ hl hm rfl]
  exact execRun_succ (execPollReceive_sent1
    (s := received (pollFrame 0) (y :: imageBytes img) more (.sent 1) s) ⟨hb, rfl⟩ rfl hst) n

/-- The read of RXB1 where its flag is set, and the end (R166). -/
theorem execRun_pollSecond (hb : s.seqState = .busy) (hl : s.dev.law = .any) (h1 : st.getLsbD 1 = true)
    (hm : s.env.miso = (y :: imageBytes img) ++ more) :
    execRun .pollReceive 1 (pollSecond st s) = .next (pollDrain (pollRead 1 y img more (.sent 2) s)) := by
  rw [pollSecond_set h1, afterXfer_given (pollFrame 1) _ hl hm rfl]
  exact execRun_succ (execPollReceive_sent2
    (s := received (pollFrame 1) (y :: imageBytes img) more (.sent 2) s) ⟨hb, rfl⟩ rfl) 0

/-- The state after POLL_RECEIVE's status read, with the status byte in its local (R166). -/
def pollStatus (x st : Byte) (more : List Byte) (s : State) : State :=
  let s1 := received [0xA0, 0x00] [x, st] more (.sent 0) s
  { s1 with scratch := { s1.scratch with st := some st } }

theorem execRun_pollStatus {x : Byte} (h : BusyAt .start s) (hinit : s.initialized = true) (hl : s.dev.law = .any)
    (hm : s.env.miso = [x, st] ++ more) (n : Nat) :
    execRun .pollReceive (n + 2) s = execRun .pollReceive n (pollFirst st (pollStatus x st more s)) := by
  have hb := h.1
  have hstart : exec .pollReceive s = .next (received [0xA0, 0x00] [x, st] more (.sent 0) s) := by
    rw [execPollReceive_start h, if_pos hinit, seqXfer_eq, afterXfer_given [0xA0, 0x00] _ hl hm rfl]
  rw [execRun_succ hstart]
  exact execRun_succ
    (execPollReceive_sent0 (s := received [0xA0, 0x00] [x, st] more (.sent 0) s) ⟨hb, rfl⟩ rfl) n

@[simp] theorem mosi_pollStatus (x st : Byte) (more : List Byte) (s : State) :
    mosi (pollStatus x st more s).history = mosi s.history ++ [[0xA0, 0x00]] := mosi_append ..

@[simp] theorem mosi_pollRead (n : Fin Config.nRxBuf) (y : Byte) (img : BufferImage) (more : List Byte) (p : Point)
    (s : State) : mosi (pollRead n y img more p s).history = mosi s.history ++ [pollFrame n] := mosi_append ..

@[simp] theorem mosi_pollDrain (s : State) : mosi (pollDrain s).history = mosi s.history := mosi_afterReturn ..

/-- The reads of the two buffers as bytes (R94, R166). -/
theorem pollFrame_eq :
    pollFrame 0 = [0x90] ++ List.replicate 13 0x00 ∧ pollFrame 1 = [0x94] ++ List.replicate 13 0x00 := by decide

end

/-- Settles O43: the status read (`execRun_pollStatus`), and each buffer's read where its flag is set
(`execRun_pollFirst`, `execRun_pollSecond`). -/
theorem pollReceiveReturnsTheFrames : Obligations.PollReceiveReturnsTheFrames := by
  intro x st y0 y1 img0 img1 rest s h hinit hfifo hl
  dsimp only
  obtain ⟨hread0, hread1⟩ := pollFrame_eq
  rw [← hread0, ← hread1]
  have hb : s.seqState = .busy := h.1
  refine ⟨fun h0 h1 hm => ?none, fun h0 h1 hm => ?first, fun h0 h1 hm => ?second, fun h0 h1 hm => ?both⟩
  case none =>
    rw [execRun_pollStatus h hinit hl hm, pollFirst_clear h0, pollSecond_clear h1]
    exact ⟨_, rfl, rfl, congrArg (OpResult.ok <| .frames ·) hfifo, rfl, rfl, hinit, rfl, rfl, by simp⟩
  case first =>
    rw [execRun_pollStatus h hinit hl (hm.trans (List.append_assoc ..)),
      execRun_pollFirst (s := pollStatus x st _ s) hb hl h0 rfl rfl, pollSecond_clear h1]
    exact ⟨_, rfl, rfl, congrArg (OpResult.ok <| .frames <| · ++ [_]) hfifo, rfl, rfl, hinit, rfl, rfl, by simp⟩
  case second =>
    rw [execRun_pollStatus h hinit hl (hm.trans (List.append_assoc ..)), pollFirst_clear h0,
      execRun_pollSecond (s := pollStatus x st _ s) hb hl h1 rfl]
    exact ⟨_, rfl, rfl, congrArg (OpResult.ok <| .frames <| · ++ [_]) hfifo, rfl, rfl, hinit, rfl, rfl, by simp⟩
  case both =>
    have hm : s.env.miso = [x, st] ++ ((y0 :: imageBytes img0) ++ ((y1 :: imageBytes img1) ++ rest)) := by
      simpa using hm
    rw [execRun_pollStatus h hinit hl hm, execRun_pollFirst (s := pollStatus x st _ s) hb hl h0 rfl rfl,
      execRun_pollSecond (s := pollRead 0 y0 img0 _ _ (pollStatus x st _ s)) hb hl h1 rfl]
    exact ⟨_, rfl, rfl, congrArg (OpResult.ok <| .frames <| · ++ [_] ++ [_]) hfifo, rfl, rfl, hinit, rfl, rfl,
      by simp⟩

end Sys2Proof.Machine
end

section
/-! INIT (O39) and LISTEN (O46) over the simulator of R71: what each of their transactions does to it, what a whole
ModeSet does, and the registers at the end. -/

namespace Sys2Proof.Machine

/-! ### A transaction with the simulator -/

section
variable {d : Device} {a a' : Nat} {data : List Byte}

theorem Device.takeLastMode_contents_other (d : Device) (drawn : Byte) (h : canonAddr a ≠ 0x0E) :
    (d.takeLastMode drawn).contents a = d.contents a := by
  unfold Device.takeLastMode
  split
  · rfl
  · exact d.contents_store_other _ h

theorem Device.takeLastMode_low (d : Device) (drawn : Byte) :
    (d.takeLastMode drawn).read 0x0E &&& 0x1F = d.read 0x0E &&& 0x1F := by
  unfold Device.takeLastMode
  split
  · rfl
  · exact d.setOpmod_low _

theorem Device.takeLastMode_law (d : Device) (drawn : Byte) : (d.takeLastMode drawn).law = d.law := by
  unfold Device.takeLastMode
  split
  · rfl
  · rfl

/-- A reset drops the requests, whether OPMOD took one before it or not (R70, R71). -/
theorem Device.takeLastMode_reset (d : Device) (drawn : Byte) : (d.takeLastMode drawn).reset = d.reset := by
  unfold Device.takeLastMode
  split
  · rfl
  · rfl

theorem Device.reset_contents {b : Byte} (h : resetContents (canonAddr a) = some b) : d.reset.contents a = b := by
  have hread : Memory.read d.reset.regs (canonAddr a) = some b := h
  simp only [Device.contents, hread]

theorem Device.writeMasked_law (d : Device) (a : Nat) (mask b : Byte) : (d.writeMasked a mask b).law = d.law := by
  cases hk : regKind a with
  | none => rw [Device.writeMasked, hk]
  | some k => rw [d.writeMasked_eq mask b hk]; rfl

theorem Device.writeBurst_law (d : Device) (a : Nat) (data : List Byte) : (d.writeBurst a data).law = d.law := by
  induction data generalizing d a with
  | nil => rfl
  | cons b data ih => exact (ih _ _).trans (d.writeMasked_law ..)

/-- A burst that leaves CANCTRL out requests no mode (R71). -/
theorem Device.writeBurst_noRequest (d : Device) (h : a + data.length ≤ 0x80)
    (hctrl : ∀ j < data.length, canonAddr (a + j) ≠ 0x0F) : (d.writeBurst a data).modeReqs = d.modeReqs := by
  induction data generalizing d a with
  | nil => rfl
  | cons b data ih =>
    have hlen : a + (data.length + 1) ≤ 0x80 := h
    have hrest (j : Nat) (hj : j < data.length) : canonAddr (a + 1 + j) ≠ 0x0F := by
      rw [Nat.add_right_comm]
      exact hctrl (j + 1) (Nat.succ_lt_succ hj)
    rw [Device.writeBurst, ih _ (by omega) hrest, d.writeByte_modeReqs (by omega),
      if_neg (show canonAddr a ≠ 0x0F from hctrl 0 (Nat.zero_lt_succ _)), List.append_nil]

theorem deviceXfer_simulator (tx : List Byte) (e : Env) (h : d.law = .simulator) :
    ∃ drawn raw, raw.length = tx.length ∧
      (deviceXfer tx d e).rx = ((d.takeLastMode drawn).answer tx raw).1 ∧
      (deviceXfer tx d e).dev = ((d.takeLastMode drawn).answer tx raw).2 := by
  unfold deviceXfer
  rw [h]
  exact ⟨_, _, drawBytes_length _ _, rfl, rfl⟩

end

/-- The device of `s` is the simulator `d`, and OPMOD has taken every mode request (R71). -/
def Simulates (s : State) (d : Device) : Prop := s.dev = d ∧ d.law = .simulator ∧ d.modeReqs = []

section
variable {s : State} {d : Device} {a : Byte} {data : List Byte}

theorem Simulates.answer (h : Simulates s d) (tx : List Byte) (p : Point) :
    ∃ raw, (afterXfer tx p s).dev = (d.answer tx raw).2 := by
  obtain ⟨rfl, hlaw, hreqs⟩ := h
  obtain ⟨drawn, raw, -, -, hdev⟩ := deviceXfer_simulator tx s.env hlaw
  have htake : s.dev.takeLastMode drawn = s.dev := by rw [Device.takeLastMode, hreqs]; rfl
  rw [htake] at hdev
  exact ⟨raw, hdev⟩

/-- A WRITE in the register space that leaves CANCTRL out. -/
theorem Simulates.write (h : Simulates s d) (p : Point) (hlen : a.toNat + data.length ≤ 0x80)
    (hctrl : ∀ j < data.length, canonAddr (a.toNat + j) ≠ 0x0F) :
    Simulates (afterXfer ([0x02, a] ++ data) p s) (d.writeBurst a.toNat data) := by
  obtain ⟨raw, hdev⟩ := h.answer ([0x02, a] ++ data) p
  obtain ⟨-, hlaw, hreqs⟩ := h
  have hframe : d.answer ([0x02, a] ++ data) raw = _ := d.answer_write raw a data
  rw [hframe, d.writeFrame_within hlen] at hdev
  exact ⟨hdev, (d.writeBurst_law ..).trans hlaw, (d.writeBurst_noRequest hlen hctrl).trans hreqs⟩

/-- A BIT MODIFY of a register other than CANCTRL. -/
theorem Simulates.bitModify {k : RegKind} (h : Simulates s d) (p : Point) (mask b : Byte)
    (hk : regKind a.toNat = some k) (hctrl : k ≠ .canctrl) :
    Simulates (afterXfer [0x05, a, mask, b] p s) (d.bitModify a.toNat mask b) := by
  obtain ⟨raw, hdev⟩ := h.answer [0x05, a, mask, b] p
  obtain ⟨-, hlaw, hreqs⟩ := h
  obtain ⟨m', b', hwrite⟩ := d.bitModify_eq_writeMasked mask b hk
  have hnone := d.bitModify_modeReqs mask b hk
  rw [if_neg fun hc => hctrl hc.1, List.append_nil] at hnone
  exact ⟨hdev, (congrArg Device.law hwrite).trans ((d.writeMasked_law ..).trans hlaw), hnone.trans hreqs⟩

theorem simulates_reset (h : s.dev.law = .simulator) (p : Point) :
    Simulates (afterXfer [0xC0] p s) s.dev.reset := by
  obtain ⟨drawn, raw, -, -, hdev⟩ := deviceXfer_simulator [0xC0] s.env h
  exact ⟨hdev.trans (s.dev.takeLastMode_reset drawn), h, rfl⟩

end

/-! ### ModeSet -/

/-- `d'` is the simulator `d` after a whole ModeSet to `m`: OPMOD is the mode, REQOP asked for it, and the other bits
and registers are as before (R150, R71). -/
structure Device.Entered (m : Mode) (d d' : Device) : Prop where
  opmod : d'.opmod = modeCode m
  canstat : d'.read 0x0E &&& 0x1F = d.read 0x0E &&& 0x1F
  canctrl : d'.contents 0x0F = mergeBits (d.contents 0x0F) (modeBits m) 0xE0
  others : ∀ a, canonAddr a ≠ 0x0E → canonAddr a ≠ 0x0F → d'.contents a = d.contents a

theorem modeCode_of_mergeBits (old : Byte) (m : Mode) :
    (mergeBits old (modeBits m) 0xE0).extractLsb' 5 3 = modeCode m := by
  revert old
  cases m <;> decide +kernel

/-- The write of the mode bits leaves their request the last (R71). -/
theorem Device.bitModify_requests (d : Device) (m : Mode) :
    (d.bitModify 0x0F 0xE0 (modeBits m)).modeReqs.getLast? = some (modeCode m) := by
  have hk : regKind 0x0F = some .canctrl := by decide
  rw [d.bitModify_part _ _ hk rfl, d.writeMasked_modeReqs _ _ hk, if_pos ⟨rfl, by decide⟩, modeCode_of_mergeBits]
  exact List.getLast?_concat

theorem Device.bitModify_canctrl (d : Device) (mask b : Byte) :
    (d.bitModify 0x0F mask b).contents 0x0F = mergeBits (d.contents 0x0F) b mask := by
  have hk : regKind 0x0F = some .canctrl := by decide
  rw [d.bitModify_part _ _ hk rfl, d.writeMasked_contents_same _ _ hk rfl, d.written_rw _ _ (by simp)]

theorem Device.bitModify_contents_other {a a' : Nat} {k : RegKind} (d : Device) (mask b : Byte)
    (hk : regKind a = some k) (h : canonAddr a' ≠ canonAddr a) :
    (d.bitModify a mask b).contents a' = d.contents a' := by
  obtain ⟨m', b', hwrite⟩ := d.bitModify_eq_writeMasked mask b hk
  rw [hwrite]
  exact d.writeMasked_contents_other _ _ h

/-- The write of the mode bits, whatever requests waited before it. -/
theorem modeStart_simulator {s : State} (h : s.dev.law = .simulator) (m : Mode) (c : ModeCall) :
    let w := (modeStart m c s).dev
    w.law = .simulator ∧ w.modeReqs.getLast? = some (modeCode m) ∧
      w.read 0x0E &&& 0x1F = s.dev.read 0x0E &&& 0x1F ∧
      w.contents 0x0F = mergeBits (s.dev.contents 0x0F) (modeBits m) 0xE0 ∧
      ∀ a, canonAddr a ≠ 0x0E → canonAddr a ≠ 0x0F → w.contents a = s.dev.contents a := by
  obtain ⟨drawn, raw, -, -, hdev⟩ := deviceXfer_simulator (modeWriteFrame m) s.env h
  have hk : regKind 0x0F = some .canctrl := by decide
  generalize hd : s.dev.takeLastMode drawn = d at hdev
  have hdev : (modeStart m c s).dev = d.bitModify 0x0F 0xE0 (modeBits m) := hdev
  obtain ⟨m', b', hwrite⟩ := d.bitModify_eq_writeMasked 0xE0 (modeBits m) hk
  dsimp only
  rw [hdev]
  refine ⟨?law, d.bitModify_requests m, ?canstat, ?canctrl, fun a hstat hctrl => ?others⟩
  case law => rw [hwrite, d.writeMasked_law, ← hd, s.dev.takeLastMode_law, h]
  case canstat =>
    rw [Device.read_of_contents (d.bitModify_contents_other _ _ hk (by decide)), ← hd, s.dev.takeLastMode_low]
  case canctrl => rw [d.bitModify_canctrl, ← hd, s.dev.takeLastMode_contents_other _ (by decide)]
  case others => rw [d.bitModify_contents_other _ _ hk hctrl, ← hd, s.dev.takeLastMode_contents_other _ hstat]

/-- A poll where the last request is `m`. -/
theorem modePoll_simulator {s : State} {m : Mode} (h : s.dev.law = .simulator)
    (hreq : s.dev.modeReqs.getLast? = some (modeCode m)) (c : ModeCall) :
    let d := { s.dev.setOpmod (modeCode m) with modeReqs := [] }
    (modePoll c s).dev = d ∧ rxByte (modePoll c s) 2 = some (d.read 0x0E) := by
  obtain ⟨drawn, raw, hlen, hrx, hdev⟩ := deviceXfer_simulator modePollFrame s.env h
  have hframe : modePollFrame = frameOf (.spiRead 0x0E 1) := rfl
  rw [s.dev.takeLastMode_known hreq, hframe, Device.answer_read] at hrx hdev
  obtain ⟨x, y, z, rfl⟩ := List.length_eq_three.mp hlen
  exact ⟨hdev, congrArg (·[2]?) hrx⟩

/-- A whole ModeSet over the simulator: its first poll confirms the mode (R150, R71). -/
theorem modeSet_simulator {s : State} (h : s.dev.law = .simulator) (m : Mode) (c : ModeCall) :
    let t := modePoll c (modeStart m c s)
    (∃ canstat, rxByte t 2 = some canstat ∧ canstat.extractLsb' 5 3 = modeCode m) ∧ Simulates t t.dev ∧
      s.dev.Entered m t.dev := by
  obtain ⟨hlaw, hreq, hstat, hctrl, hothers⟩ := modeStart_simulator h m c
  obtain ⟨hdev, hrx⟩ := modePoll_simulator hlaw hreq c
  dsimp only
  rw [hdev]
  generalize (modeStart m c s).dev = w at hlaw hstat hctrl hothers hdev hrx ⊢
  have hopmod : (w.setOpmod (modeCode m)).opmod = modeCode m := w.opmod_setOpmod _
  have hkept {a : Nat} (ha : canonAddr a ≠ 0x0E) : (w.setOpmod (modeCode m)).contents a = w.contents a :=
    w.contents_store_other _ ha
  exact ⟨⟨_, hrx, hopmod⟩, ⟨hdev, hlaw, rfl⟩, hopmod, (w.setOpmod_low _).trans hstat,
    (hkept (by decide)).trans hctrl, fun a hstat hctrl => (hkept hstat).trans (hothers a hstat hctrl)⟩

theorem execRun_modeSet {i : Instr} {c : ModeCall} {m : Mode} {r : Mode × ErrorCode × Byte} {s : State}
    (hb : s.seqState = .busy) (hcall : modeCallOf i c s.scratch = some r) (n : Nat) :
    execRun i (n + 1) (modeStart m c s) = execRun i n (modePoll c (modeStart m c s)) := by
  have hprior : modeCallOf i c (modeStart m c s).scratch = modeCallOf i c s.scratch := by cases i <;> rfl
  have hcall : modeCallOf i c (modeStart m c s).scratch ≠ none := by rw [hprior, hcall]; exact Option.some_ne_none r
  exact execRun_succ (exec_modeWritten (s := modeStart m c s) ⟨hb, rfl⟩ hcall) n

/-! ### INIT's registers -/

section
variable {a a' : Nat} {k : RegKind} {b : Byte} (d : Device)

theorem Device.writeByte_contents_other (b : Byte) (h : canonAddr a' ≠ canonAddr a) :
    (d.writeByte a b).contents a' = d.contents a' := d.writeMasked_contents_other 0xFF b h

theorem Device.writeByte_contents_rw (b : Byte) (hk : regKind a = some k)
    (hrw : k ∈ [.canctrl, .bfpctrl, .cnf1, .cnf2, .cnf3, .caninte, .canintf, .txbSidl, .txbDlc, .txbByte]) :
    (d.writeByte a b).contents a = b :=
  (d.writeMasked_contents_same 0xFF b hk rfl).trans (d.written_rw _ _ hrw)

/-- Writing a register's contents back changes nothing, whatever its fields. -/
theorem Device.writeByte_contents_self (hk : regKind a = some k) (h : d.contents a = b) :
    (d.writeByte a b).contents a = b := by
  rw [Device.writeByte, d.writeMasked_contents_same 0xFF b hk rfl, h, d.written_self]

end

/-- The simulator after INIT's eight writes (R160). -/
def Device.programmed (e : BitrateEntry) (d : Device) : Device :=
  (((((((d.writeBurst 0x28 [e.cnf3, e.cnf2, e.cnf1]).writeBurst 0x30 [0x00]).writeBurst 0x40 [0x00]).writeBurst
    0x50 [0x00]).writeBurst 0x60 [0x00]).writeBurst 0x70 [0x00]).writeBurst 0x2B [0x03]).bitModify 0x60 0x04 0x04

theorem simulates_initProgrammed {s : State} {d : Device} (e : BitrateEntry) (h : Simulates s d) :
    Simulates (initProgrammed e s) (d.programmed e) := by
  have h0 : Simulates (modeConfirmed .config s) d := h
  have hcnf : ∀ j < 3, canonAddr (0x28 + j) ≠ 0x0F := by decide
  have h1 := h0.write (a := 0x28) (data := [e.cnf3, e.cnf2, e.cnf1]) (.sent 1) (by simp) hcnf
  have h2 := h1.write (a := 0x30) (data := [0x00]) (.sent 2) (by decide) (by decide)
  have h3 := h2.write (a := 0x40) (data := [0x00]) (.sent 3) (by decide) (by decide)
  have h4 := h3.write (a := 0x50) (data := [0x00]) (.sent 4) (by decide) (by decide)
  have h5 := h4.write (a := 0x60) (data := [0x00]) (.sent 5) (by decide) (by decide)
  have h6 := h5.write (a := 0x70) (data := [0x00]) (.sent 6) (by decide) (by decide)
  have h7 := h6.write (a := 0x2B) (data := [0x03]) (.sent 7) (by decide) (by decide)
  exact h7.bitModify (a := 0x60) (k := .rxb0Ctrl) (.sent 8) 0x04 0x04 (by decide) (by decide)

section
variable (d : Device) (e : BitrateEntry)

theorem Device.programmed_other {a : Nat} (h : ∀ a' ∈ [0x28, 0x29, 0x2A, 0x2B, 0x30, 0x40, 0x50, 0x60, 0x70],
    canonAddr a ≠ canonAddr a') : (d.programmed e).contents a = d.contents a := by
  have hk : regKind 0x60 = some .rxb0Ctrl := by decide
  simp only [List.forall_mem_cons] at h
  obtain ⟨h28, h29, h2A, h2B, h30, h40, h50, h60, h70, -⟩ := h
  simp only [Device.programmed, Device.writeBurst, Device.bitModify_contents_other _ _ _ hk h60,
    Device.writeByte_contents_other _ _ h28, Device.writeByte_contents_other _ _ h29,
    Device.writeByte_contents_other _ _ h2A, Device.writeByte_contents_other _ _ h2B,
    Device.writeByte_contents_other _ _ h30, Device.writeByte_contents_other _ _ h40,
    Device.writeByte_contents_other _ _ h50, Device.writeByte_contents_other _ _ h60,
    Device.writeByte_contents_other _ _ h70]

theorem Device.programmed_written :
    (d.programmed e).contents 0x28 = e.cnf3 ∧ (d.programmed e).contents 0x29 = e.cnf2 ∧
      (d.programmed e).contents 0x2A = e.cnf1 ∧ (d.programmed e).contents 0x2B = 0x03 := by
  have hk : regKind 0x60 = some .rxb0Ctrl := by decide
  simp (disch := decide) only [Device.programmed, Device.writeBurst, Device.bitModify_contents_other _ _ _ hk,
    Device.writeByte_contents_other]
  exact ⟨Device.writeByte_contents_rw _ _ (k := .cnf3) (by decide) (by simp),
    Device.writeByte_contents_rw _ _ (k := .cnf2) (by decide) (by simp),
    Device.writeByte_contents_rw _ _ (k := .cnf1) (by decide) (by simp),
    Device.writeByte_contents_rw _ _ (k := .caninte) (by decide) (by simp)⟩

/-- The buffers' control registers, cleared before; of RXB0's, INIT sets BUKT (R160). -/
theorem Device.programmed_cleared (h : ∀ a ∈ [0x30, 0x40, 0x50, 0x60, 0x70], d.contents a = 0x00) :
    (d.programmed e).contents 0x30 = 0x00 ∧ (d.programmed e).contents 0x40 = 0x00 ∧
      (d.programmed e).contents 0x50 = 0x00 ∧ (d.programmed e).contents 0x60 = 0x04 ∧
      (d.programmed e).contents 0x70 = 0x00 := by
  have hk : regKind 0x60 = some .rxb0Ctrl := by decide
  have cleared {d' : Device} {a : Nat} (ha : a ∈ [0x30, 0x40, 0x50, 0x60, 0x70])
      (hkept : d'.contents a = d.contents a) : (d'.writeByte a 0x00).contents a = 0x00 := by
    have hkinds : ∀ a ∈ [0x30, 0x40, 0x50, 0x60, 0x70], (regKind a).isSome = true := by decide
    obtain ⟨k, hka⟩ := Option.isSome_iff_exists.mp (hkinds a ha)
    exact d'.writeByte_contents_self hka (hkept.trans (h a ha))
  have bukt {d' : Device} (hzero : d'.contents 0x60 = 0x00) : (d'.bitModify 0x60 0x04 0x04).contents 0x60 = 0x04 := by
    rw [d'.bitModify_part _ _ hk rfl, d'.writeMasked_contents_same _ _ hk rfl, hzero, d'.written_fields _ _ (by simp)]
    decide
  simp (disch := decide) only [Device.programmed, Device.writeBurst, Device.bitModify_contents_other _ _ _ hk,
    Device.writeByte_contents_other]
  refine ⟨cleared (by simp) ?_, cleared (by simp) ?_, cleared (by simp) ?_, bukt ?zero, cleared (by simp) ?_⟩
  case zero =>
    simp (disch := decide) only [Device.writeByte_contents_other]
    apply cleared (by simp)
    simp (disch := decide) only [Device.writeByte_contents_other]
  all_goals simp (disch := decide) only [Device.writeByte_contents_other]

end

/-! ### INIT -/

/-- The simulator's registers after INIT, from any state of it: a reset, a ModeSet to configuration mode, the eight
writes, and a ModeSet to `m`. -/
theorem Device.init_registers {d0 d1 d2 : Device} {e : BitrateEntry} {m : Mode}
    (hconfig : d0.reset.Entered .config d1) (hmode : (d1.programmed e).Entered m d2) :
    d2.read 0x28 = e.cnf3 &&& 0xC7 ∧ d2.read 0x29 = e.cnf2 ∧ d2.read 0x2A = e.cnf1 ∧
      d2.read 0x2B = 0x03 ∧ d2.read 0x30 = 0x00 ∧ d2.read 0x40 = 0x00 ∧
      d2.read 0x50 = 0x00 ∧ d2.read 0x60 = 0x04 ∧ d2.read 0x70 = 0x00 ∧
      d2.read 0x0E = modeBits m ∧ d2.read 0x0F = 0x07 ||| modeBits m := by
  have hzero : ∀ a ∈ [0x30, 0x40, 0x50, 0x60, 0x70], d1.contents a = 0x00 := by
    have hreset : ∀ a ∈ [0x30, 0x40, 0x50, 0x60, 0x70],
        resetContents (canonAddr a) = some 0x00 ∧ canonAddr a ≠ 0x0E ∧ canonAddr a ≠ 0x0F := by decide
    intro a ha
    obtain ⟨hr, hstat, hctrl⟩ := hreset a ha
    exact (hconfig.others a hstat hctrl).trans (d0.reset_contents hr)
  obtain ⟨h28, h29, h2A, h2B⟩ := d1.programmed_written e
  obtain ⟨h30, h40, h50, h60, h70⟩ := d1.programmed_cleared e hzero
  have hread {a : Nat} {b : Byte} (h : (d1.programmed e).contents a = b) (hstat : canonAddr a ≠ 0x0E)
      (hctrl : canonAddr a ≠ 0x0F) : d2.read a = b &&& implBits a := by
    rw [Device.read, hmode.others a hstat hctrl, h]
  have hall : ∀ a ∈ [0x29, 0x2A], implBits a = 0xFF := by decide
  refine ⟨?_, ?_, ?_, ?_, ?_, ?_, ?_, ?_, ?_, ?canstat, ?canctrl⟩
  case canstat =>
    have hbyte : ∀ b : Byte, b.extractLsb' 5 3 = modeCode m → b &&& 0x1F = 0x00 → b = modeBits m := by
      cases m <;> decide +kernel
    have hlow : d2.read 0x0E &&& 0x1F = 0x00 := by
      rw [hmode.canstat, Device.read_of_contents (d1.programmed_other e (by decide)), hconfig.canstat,
        d0.reset_read (b := 0x80) (by decide)]
      decide
    exact hbyte _ hmode.opmod hlow
  case canctrl =>
    rw [Device.read, hmode.canctrl, d1.programmed_other e (by decide), hconfig.canctrl,
      d0.reset_contents (b := 0x87) (by decide)]
    cases m <;> decide
  · exact hread h28 (by decide) (by decide)
  · rw [hread h29 (by decide) (by decide), hall _ (by simp)]; exact Byte.and_ones ..
  · rw [hread h2A (by decide) (by decide), hall _ (by simp)]; exact Byte.and_ones ..
  · exact hread h2B (by decide) (by decide)
  · exact hread h30 (by decide) (by decide)
  · exact hread h40 (by decide) (by decide)
  · exact hread h50 (by decide) (by decide)
  · exact hread h60 (by decide) (by decide)
  · exact hread h70 (by decide) (by decide)

section
variable {bitrate crystal : Nat} {mode : Mode} {silent : Bool} {s : State}

theorem execInit_sent0 (h : BusyAt (.sent 0) s) :
    exec (.init bitrate crystal mode silent) s = .next (modeStart .config .first s) := by
  rw [exec, execInit, unlessFault_busyAt _ h]
  rfl

/-- The state after INIT's reset and its ModeSet to configuration mode, up to the poll (R160). -/
def initConfig (s : State) : State :=
  modePoll .first (modeStart .config .first (afterXfer [0xC0] (.sent 0) (forgetDevice s)))

theorem initConfig_transacted (s : State) : Transacted 3 { forgetDevice s with attempt := 1 } (initConfig s) :=
  ((afterXfer_transacted [0xC0] (.sent 0) (forgetDevice s)).modeStart .config .first).trans
    (afterXfer_transacted modePollFrame _ _)

theorem mosi_initConfig (s : State) :
    mosi (initConfig s).history = mosi s.history ++ [[0xC0], [0x05, 0x0F, 0xE0, 0x80], [0x03, 0x0E, 0x00]] := by
  simp only [initConfig, mosi_modePoll, mosi_modeStart, mosi_afterXfer, List.append_assoc]
  rfl

theorem initConfig_simulator (h : s.dev.law = .simulator) :
    (∃ canstat, rxByte (initConfig s) 2 = some canstat ∧ canstat.extractLsb' 5 3 = modeCode .config) ∧
      Simulates (initConfig s) (initConfig s).dev ∧ s.dev.reset.Entered .config (initConfig s).dev := by
  obtain ⟨hdev, hlaw, -⟩ := simulates_reset (s := forgetDevice s) h (.sent 0)
  exact hdev ▸ modeSet_simulator (hdev ▸ hlaw) .config .first

/-- INIT's reset and its ModeSet to configuration mode (R160). -/
theorem execRun_initConfig {e : BitrateEntry} (h : BusyAt .start s)
    (he : bitrateLookup s.cfg.bitrateTable bitrate crystal = some e) (hmode : mode ≠ .config)
    (hok : ¬ (mode = .loopback ∧ silent = false)) (n : Nat) :
    execRun (.init bitrate crystal mode silent) (n + 3) s =
      execRun (.init bitrate crystal mode silent) n (initConfig s) := by
  have hb := h.1
  have hstart : exec (.init bitrate crystal mode silent) s =
      .next (afterXfer [0xC0] (.sent 0) (forgetDevice s)) := by
    rw [execInit_start h, initBegin_entry _ hmode he, if_neg hok]
  have hreset := execInit_sent0 (bitrate := bitrate) (crystal := crystal) (mode := mode) (silent := silent)
    (s := afterXfer [0xC0] (.sent 0) (forgetDevice s)) ⟨hb, rfl⟩
  rw [execRun_succ hstart, execRun_succ hreset]
  exact execRun_modeSet (s := afterXfer _ _ (forgetDevice s)) hb rfl n

/-- INIT's second ModeSet (R160). -/
theorem execRun_initMode (hb : s.seqState = .busy) (hlaw : s.dev.law = .simulator) :
    execRun (.init bitrate crystal mode silent) 2 (modeStart mode .second s) =
      .next (afterReturn (.init bitrate crystal mode silent) .unit
        { modeConfirmed mode (modePoll .second (modeStart mode .second s)) with initialized := true }) := by
  obtain ⟨⟨canstat, hrx, hconf⟩, -⟩ := modeSet_simulator hlaw mode .second
  rw [execRun_modeSet hb rfl]
  obtain ⟨-, hinit⟩ := modeSetConfirmed mode canstat (modePoll .second (modeStart mode .second s)) hrx hconf
  exact execRun_succ (hinit bitrate crystal silent ⟨hb, rfl⟩) 0

end

/-- Settles O39: the reset and the first ModeSet (`execRun_initConfig`), the eight writes
(`execRun_initProgrammed`) and the second ModeSet (`execRun_initMode`); the registers by `Device.init_registers`. -/
theorem initOnTheSimulator : Obligations.InitOnTheSimulator := by
  intro bitrate crystal mode silent e s h hlaw he hmode hok
  dsimp only
  rw [execRun_initConfig h he hmode hok 11]
  obtain ⟨⟨canstat, hrx, hconf⟩, hsim, hconfig⟩ := initConfig_simulator hlaw
  have hmosi := mosi_initConfig s
  have htrans := initConfig_transacted s
  have hpoint : BusyAt (.modePolled .first) (initConfig s) := ⟨h.1, rfl⟩
  generalize initConfig s = s3 at *
  rw [(execRun_add (execRun_initProgrammed hpoint (htrans.cfg ▸ he) hrx hconf) 2 :)]
  have hsim' := simulates_initProgrammed e hsim
  have htrans' := initProgrammed_transacted e s3
  have hmosi' := mosi_initProgrammed e s3
  generalize initProgrammed e s3 = s8 at *
  have hb : s8.seqState = .busy := htrans'.seqState.trans hpoint.1
  have hlocked : s8.filtersLocked = false := htrans'.filtersLocked.trans htrans.filtersLocked
  obtain ⟨hs8, hlaw8, -⟩ := hsim'
  obtain ⟨-, -, hmode⟩ := modeSet_simulator (hs8 ▸ hlaw8) mode .second
  rw [hs8] at hmode
  rw [execRun_initMode hb (hs8 ▸ hlaw8)]
  refine ⟨_, rfl, rfl, rfl, rfl, rfl, hlocked, rfl, ?mosi, Device.init_registers hconfig hmode⟩
  case mosi =>
    rw [mosi_afterReturn]
    show mosi (modePoll .second (modeStart mode .second s8)).history = _
    rw [mosi_modePoll, mosi_modeStart, hmosi', hmosi]
    simp only [List.append_assoc]
    rfl

end Sys2Proof.Machine
end

section
/-! LISTEN over the simulator of R71 (O46): the masks and filters that a write in configuration mode leaves, and the
whole operation. -/

namespace Sys2Proof.Machine

/-! ### Writes in configuration mode -/

/-- A filter's or a mask's address (R65, R66). -/
abbrev ConfigAddr (a : Nat) : Prop :=
  canonAddr a = a ∧ ∃ k ∈ [RegKind.filtSidl, .filtByte, .maskSidl, .maskByte], regKind a = some k

section
variable {d d' : Device} {a a' n : Nat} {data : List Byte}

theorem Device.readBurst_congr (h : ∀ j < n, d'.contents (a + j) = d.contents (a + j)) :
    d'.readBurst a n = d.readBurst a n := by
  apply List.ext_getElem?
  intro j
  by_cases hj : j < n
  · rw [d'.readBurst_getElem? a hj, d.readBurst_getElem? a hj, Device.read_of_contents (h j hj)]
  · rw [List.getElem?_eq_none (by simpa using hj), List.getElem?_eq_none (by simpa using hj)]

/-- A burst elsewhere. -/
theorem Device.readBurst_writeBurst_other {l : Nat} (d : Device) (hlen : data.length = l)
    (h : ∀ i < n, ∀ j < l, canonAddr (a' + j) ≠ canonAddr (a + i)) :
    (d.writeBurst a' data).readBurst a n = d.readBurst a n :=
  Device.readBurst_congr fun i hi => d.writeBurst_contents_other (hlen ▸ h i hi)

/-- In configuration mode the filters and masks take the bytes of a burst (R66, R74). -/
theorem Device.writeBurst_contents_config (hop : d.opmod = 0b100#3) (hcfg : ∀ j < data.length, ConfigAddr (a + j))
    {j : Nat} {b : Byte} (hb : data[j]? = some b) : (d.writeBurst a data).contents (a + j) = b := by
  obtain ⟨hj, -⟩ := List.getElem?_eq_some_iff.mp hb
  obtain ⟨hcanon, k, hkind, hk⟩ := hcfg j hj
  have hlast (j' : Nat) (hj' : j < j') (hlen : j' < data.length) : canonAddr (a + j') ≠ canonAddr (a + j) := by
    obtain ⟨hcanon', -⟩ := hcfg j' hlen
    omega
  obtain ⟨old, -, hnew⟩ := d.writeBurst_contents_last hb hlast hk
  rw [hnew, d.written_config _ _ hkind, if_pos hop]

/-- They read back in their implemented bits. -/
theorem Device.readBurst_writeBurst_config (hop : d.opmod = 0b100#3)
    (hcfg : ∀ j < data.length, ConfigAddr (a + j)) :
    (d.writeBurst a data).readBurst a data.length =
      List.zipWith (· &&& ·) data ((List.range' a data.length).map implBits) := by
  apply List.ext_getElem?
  intro j
  by_cases hj : j < data.length
  · have hb : data[j]? = some data[j] := List.getElem?_eq_getElem hj
    rw [Device.readBurst_getElem? _ _ hj, Device.read, Device.writeBurst_contents_config hop hcfg hb,
      List.getElem?_zipWith, hb, List.getElem?_map, List.getElem?_range' hj, Nat.one_mul]
    rfl
  · rw [List.getElem?_eq_none (by simpa using hj), List.getElem?_eq_none (by simpa using Nat.le_of_not_lt hj)]

theorem Device.Entered.readBurst {m : Mode} (h : d.Entered m d')
    (ha : ∀ j < n, canonAddr (a + j) ≠ 0x0E ∧ canonAddr (a + j) ≠ 0x0F) :
    d'.readBurst a n = d.readBurst a n :=
  Device.readBurst_congr fun j hj => h.others _ (ha j hj).1 (ha j hj).2

end

/-- An identifier's image in the bits that a filter or a mask implements (R66, R190). -/
def imageIn (sidlBits : Byte) (x : IdSpec) : List Byte :=
  let g := encIdImage x.value x.ext
  [g.sidh, g.sidl &&& sidlBits, g.eid8, g.eid0]

theorem zipWith_specBytes (sidlBits : Byte) (x : IdSpec) :
    List.zipWith (· &&& ·) (specBytes x) [0xFF, sidlBits, 0xFF, 0xFF] = imageIn sidlBits x := by
  simp [specBytes, idBytes, imageIn, Byte.and_ones]

section
variable {d : Device} (hop : d.opmod = 0b100#3) (x y z : IdSpec)
include hop

theorem Device.readBurst_masks :
    (d.writeBurst 0x20 (specBytes x ++ specBytes y)).readBurst 0x20 8 = imageIn 0xE3 x ++ imageIn 0xE3 y := by
  have hcfg : ∀ j < 8, ConfigAddr (0x20 + j) := by decide
  have hbits : (List.range' 0x20 8).map implBits =
      [0xFF, 0xE3, 0xFF, 0xFF] ++ [0xFF, 0xE3, 0xFF, 0xFF] := by decide
  refine (Device.readBurst_writeBurst_config (data := specBytes x ++ specBytes y) hop hcfg).trans ?_
  show List.zipWith _ _ ((List.range' 0x20 8).map implBits) = _
  rw [hbits, List.zipWith_append, zipWith_specBytes, zipWith_specBytes]
  rfl

theorem Device.readBurst_filters {a : Nat} (ha : a = 0x00 ∨ a = 0x10) :
    (d.writeBurst a (specBytes x ++ specBytes y ++ specBytes z)).readBurst a 12 =
      imageIn 0xEB x ++ imageIn 0xEB y ++ imageIn 0xEB z := by
  have hcfg : ∀ j < 12, ConfigAddr (a + j) := by obtain rfl | rfl := ha <;> decide
  have hbits : (List.range' a 12).map implBits =
      [0xFF, 0xEB, 0xFF, 0xFF] ++ [0xFF, 0xEB, 0xFF, 0xFF] ++ [0xFF, 0xEB, 0xFF, 0xFF] := by
    obtain rfl | rfl := ha <;> decide
  refine (Device.readBurst_writeBurst_config (data := specBytes x ++ specBytes y ++ specBytes z) hop hcfg).trans ?_
  show List.zipWith _ _ ((List.range' a 12).map implBits) = _
  rw [hbits, List.zipWith_append, List.zipWith_append, zipWith_specBytes, zipWith_specBytes, zipWith_specBytes]
  · rfl
  · rfl

theorem Device.readBurst_zeroMasks :
    (d.writeBurst 0x20 (List.replicate 8 0x00)).readBurst 0x20 8 = List.replicate 8 0x00 := by
  have hcfg : ∀ j < 8, ConfigAddr (0x20 + j) := by decide
  exact (Device.readBurst_writeBurst_config (data := List.replicate 8 0x00) hop hcfg).trans (by decide)

end

/-- Where every mask bit is 0, every frame matches (R74). -/
theorem Device.matchesFilter_of_zeroMasks {d : Device} (h : d.readBurst 0x20 8 = List.replicate 8 0x00)
    (f : Fin Config.nFilt) (img : IdImage) : d.matchesFilter f img = true := by
  have hread (j : Nat) (hj : j < 8) : d.read (0x20 + j) = 0x00 := by
    have hget := d.readBurst_getElem? 0x20 hj
    rw [h, List.getElem?_replicate_of_lt hj] at hget
    exact (Option.some.inj hget).symm
  have agrees {off k : Nat} {b : Byte} (hoff : off < 4) : d.agrees f off b k := by
    have hmask : ∀ f, ∃ j < 5, rxmBase (maskOfFilter f) = 0x20 + j := by decide
    obtain ⟨j, hj, hbase⟩ := hmask f
    intro hbit
    rw [hbase, Nat.add_assoc, Device.bit, hread (j + off) (by omega)] at hbit
    simp at hbit
  rw [d.matchesFilter_iff]
  exact ⟨fun _ _ => agrees (by decide), fun _ _ _ => agrees (by decide), fun _ =>
    ⟨fun _ _ => agrees (by decide), fun _ _ => agrees (by decide), fun _ _ => agrees (by decide)⟩⟩

/-- The simulator after LISTEN's writes: the masks, and the filters of a full set (R171). -/
def Device.withFilters (fs : FilterSet) (d : Device) : Device :=
  match fs with
  | .empty => d.writeBurst 0x20 (List.replicate 8 0x00)
  | .full r =>
    ((d.writeBurst 0x20 (specBytes r.mask0 ++ specBytes r.mask1)).writeBurst 0x00
      (specBytes r.filt0 ++ specBytes r.filt1 ++ specBytes r.filt2)).writeBurst 0x10
      (specBytes r.filt3 ++ specBytes r.filt4 ++ specBytes r.filt5)

section
variable {d d1 d2 : Device} {m : Mode} (hconfig : d.Entered .config d1)
include hconfig

/-- The masks and filters after LISTEN with the empty set. -/
theorem Device.listen_empty (hmode : (d1.withFilters .empty).Entered m d2) :
    d2.readBurst 0x20 8 = List.replicate 8 0x00 ∧ d2.readBurst 0x00 12 = d.readBurst 0x00 12 ∧
      d2.readBurst 0x10 12 = d.readBurst 0x10 12 := by
  refine ⟨?masks, ?low, ?high⟩
  case masks =>
    have hop : d1.opmod = 0b100#3 := hconfig.opmod
    rw [hmode.readBurst (by decide), Device.withFilters, Device.readBurst_zeroMasks hop]
  case low =>
    rw [hmode.readBurst (by decide), Device.withFilters, d1.readBurst_writeBurst_other (l := 8) rfl (by decide),
      hconfig.readBurst (by decide)]
  case high =>
    rw [hmode.readBurst (by decide), Device.withFilters, d1.readBurst_writeBurst_other (l := 8) rfl (by decide),
      hconfig.readBurst (by decide)]

/-- The masks and filters after LISTEN with a full set. -/
theorem Device.listen_full {r : FilterRecord} (hmode : (d1.withFilters (.full r)).Entered m d2) :
    d2.readBurst 0x20 8 = imageIn 0xE3 r.mask0 ++ imageIn 0xE3 r.mask1 ∧
      d2.readBurst 0x00 12 = imageIn 0xEB r.filt0 ++ imageIn 0xEB r.filt1 ++ imageIn 0xEB r.filt2 ∧
      d2.readBurst 0x10 12 = imageIn 0xEB r.filt3 ++ imageIn 0xEB r.filt4 ++ imageIn 0xEB r.filt5 := by
  have hop : d1.opmod = 0b100#3 := hconfig.opmod
  have apart : (∀ i < 8, ∀ j < 12, canonAddr (0x00 + j) ≠ canonAddr (0x20 + i)) ∧
      (∀ i < 8, ∀ j < 12, canonAddr (0x10 + j) ≠ canonAddr (0x20 + i)) ∧
      ∀ i < 12, ∀ j < 12, canonAddr (0x10 + j) ≠ canonAddr (0x00 + i) := by decide
  obtain ⟨hlow, hhigh, hboth⟩ := apart
  refine ⟨?masks, ?low, ?high⟩
  case masks =>
    rw [hmode.readBurst (by decide), Device.withFilters, Device.readBurst_writeBurst_other _ rfl hhigh,
      Device.readBurst_writeBurst_other _ rfl hlow, Device.readBurst_masks hop]
  case low =>
    rw [hmode.readBurst (by decide), Device.withFilters, Device.readBurst_writeBurst_other _ rfl hboth,
      Device.readBurst_filters ((d1.writeBurst_opmod ..).trans hop) _ _ _ (.inl rfl)]
  case high =>
    rw [hmode.readBurst (by decide), Device.withFilters, Device.readBurst_filters
      ((Device.writeBurst_opmod ..).trans ((d1.writeBurst_opmod ..).trans hop)) _ _ _ (.inr rfl)]

end

/-! ### LISTEN -/

section
variable {fs : FilterSet} {r : FilterRecord} {m : Mode} {s : State}

/-- The state after LISTEN's ModeSet to configuration mode, up to the poll (R171). -/
def listenConfig (m : Mode) (s : State) : State :=
  modePoll .first (modeStart .config .first { s with scratch := { s.scratch with prior := some m } })

theorem execRun_listenConfig (h : BusyAt .start s) (hfs : fs.wf = true) (hinit : s.initialized = true)
    (hlock : s.filtersLocked = false) (hmode : s.curMode = .known m) (n : Nat) :
    execRun (.listen fs) (n + 2) s = execRun (.listen fs) n (listenConfig m s) := by
  have hb := h.1
  have hstart : exec (.listen fs) s =
      .next (modeStart .config .first { s with scratch := { s.scratch with prior := some m } }) := by
    rw [execListen_start h, listenBegin_wf s hfs, if_neg (by simp [hinit]), if_neg (by simp [hlock]), hmode]
    rfl
  rw [execRun_succ hstart]
  exact execRun_modeSet (s := { s with scratch := { s.scratch with prior := some m } }) hb rfl n

/-- LISTEN's last three steps: the mode of before is back (R171). -/
theorem execRun_listenRestore (hlaw : s.dev.law = .simulator) (hprior : s.scratch.prior = some m)
    (h : (fs = .empty ∧ BusyAt (.sent 0) s) ∨ (fs ≠ .empty ∧ BusyAt (.sent 2) s)) :
    execRun (.listen fs) 3 s =
      .next (afterReturn (.listen fs) .unit
        { modeConfirmed m (modePoll .second (modeStart m .second s)) with filtersLocked := true }) := by
  have hb : s.seqState = .busy := h.elim (·.2.1) (·.2.1)
  have hcall : modeCallOf (.listen fs) .second s.scratch = some (m, .modeChangeTimeout, 0x12) :=
    congrArg (Option.map _) hprior
  obtain ⟨⟨canstat, hrx, hconf⟩, -⟩ := modeSet_simulator hlaw m .second
  rw [execRun_succ (execListen_restore hprior h), execRun_modeSet hb hcall]
  exact execRun_succ
    (execListen_restored (s := modePoll .second (modeStart m .second s)) hprior ⟨hb, rfl⟩ hrx hconf) 0

theorem listenConfig_simulator (h : s.dev.law = .simulator) :
    (∃ canstat, rxByte (listenConfig m s) 2 = some canstat ∧ canstat.extractLsb' 5 3 = modeCode .config) ∧
      Simulates (listenConfig m s) (listenConfig m s).dev ∧ s.dev.Entered .config (listenConfig m s).dev :=
  modeSet_simulator (s := { s with scratch := { s.scratch with prior := some m } }) h .config .first

/-- LISTEN's writes (R171). -/
def listenWrites (fs : FilterSet) (s : State) : State :=
  match fs with
  | .empty => afterXfer (maskFrame .empty) (.sent 0) s
  | .full r =>
    afterXfer (filterFrameHigh r) (.sent 2)
      (afterXfer (filterFrameLow r) (.sent 1) (afterXfer (maskFrame (.full r)) (.sent 0) s))

theorem listenWrites_transacted (fs : FilterSet) (s : State) :
    Transacted (if fs = .empty then 1 else 3) s (listenWrites fs s) := by
  cases fs with
  | empty => exact afterXfer_transacted ..
  | full r =>
    exact ((afterXfer_transacted ..).trans (afterXfer_transacted ..)).trans (afterXfer_transacted ..)

theorem simulates_listenWrites {d : Device} (h : Simulates s d) (fs : FilterSet) :
    Simulates (listenWrites fs s) (d.withFilters fs) := by
  cases fs with
  | empty => exact h.write (a := 0x20) (data := List.replicate 8 0x00) (.sent 0) (by decide) (by decide)
  | full r =>
    have hctrl : (∀ j < 8, canonAddr (0x20 + j) ≠ 0x0F) ∧ (∀ j < 12, canonAddr (0x00 + j) ≠ 0x0F) ∧
        ∀ j < 12, canonAddr (0x10 + j) ≠ 0x0F := by decide
    obtain ⟨hmasks, hlow, hhigh⟩ := hctrl
    have h1 := h.write (a := 0x20) (data := specBytes r.mask0 ++ specBytes r.mask1) (.sent 0)
      (by decide : 40 ≤ 128) hmasks
    have h2 := h1.write (a := 0x00) (data := specBytes r.filt0 ++ specBytes r.filt1 ++ specBytes r.filt2) (.sent 1)
      (by decide : 12 ≤ 128) hlow
    exact h2.write (a := 0x10) (data := specBytes r.filt3 ++ specBytes r.filt4 ++ specBytes r.filt5) (.sent 2)
      (by decide : 28 ≤ 128) hhigh

theorem busyAt_listenWrites (fs : FilterSet) (hb : s.seqState = .busy) :
    (fs = .empty ∧ BusyAt (.sent 0) (listenWrites fs s)) ∨
      (fs ≠ .empty ∧ BusyAt (.sent 2) (listenWrites fs s)) := by
  cases fs with
  | empty => exact .inl ⟨rfl, hb, rfl⟩
  | full r => exact .inr ⟨nofun, hb, rfl⟩

/-- From configuration mode confirmed, LISTEN's writes (R171). -/
theorem execRun_listenWrites {canstat : Byte} (h : BusyAt (.modePolled .first) s) (hrx : rxByte s 2 = some canstat)
    (hmode : canstat.extractLsb' 5 3 = 0b100#3) (fs : FilterSet) (n : Nat) :
    execRun (.listen fs) ((if fs = .empty then 1 else 3) + n) s =
      execRun (.listen fs) n (listenWrites fs (modeConfirmed .config s)) := by
  have hb := h.1
  refine execRun_add ?_ n
  cases fs with
  | empty => exact execRun_succ (execListen_configured h hrx hmode) 0
  | full r =>
    rw [if_neg nofun, execRun_succ (execListen_configured h hrx hmode),
      execRun_succ (execListen_sent0 (s := afterXfer _ (.sent 0) (modeConfirmed .config s)) ⟨hb, rfl⟩)]
    exact execRun_succ (execListen_sent1
      (s := afterXfer _ (.sent 1) (afterXfer _ (.sent 0) (modeConfirmed .config s))) ⟨hb, rfl⟩) 0

end

/-- Settles O46: the ModeSet to configuration mode (`execRun_listenConfig`), the writes of the masks and filters, and
the ModeSet back (`execRun_listenRestore`). -/
theorem listenOnTheSimulator : Obligations.ListenOnTheSimulator := by
  intro fs m s h hlaw hfs hinit hlock hmode
  obtain ⟨⟨canstat, hrx, hconf⟩, hsim, hconfig⟩ := listenConfig_simulator (m := m) hlaw
  have hpoint : BusyAt (.modePolled .first) (listenConfig m s) := ⟨h.1, rfl⟩
  have hprior : (listenConfig m s).scratch.prior = some m := rfl
  have hinit' : (listenConfig m s).initialized = true := hinit
  have hsteps : (if fs = .empty then 6 else 8) = (if fs = .empty then 1 else 3) + 3 + 2 := by split <;> rfl
  rw [hsteps, execRun_listenConfig h hfs hinit hlock hmode]
  generalize listenConfig m s = s2 at *
  have hwrites := listenWrites_transacted fs (modeConfirmed .config s2)
  obtain ⟨hdev, hlaw', -⟩ := simulates_listenWrites (s := modeConfirmed .config s2) hsim fs
  have hpoint' := busyAt_listenWrites (s := modeConfirmed .config s2) fs hpoint.1
  rw [execRun_listenWrites hpoint hrx hconf fs 3]
  generalize listenWrites fs (modeConfirmed .config s2) = s3 at *
  obtain ⟨-, -, hmode'⟩ := modeSet_simulator (hdev ▸ hlaw') m .second
  rw [hdev] at hmode'
  rw [execRun_listenRestore (hdev ▸ hlaw') (hwrites.prior.trans hprior) hpoint']
  refine ⟨_, rfl, rfl, rfl, rfl, hwrites.initialized.trans hinit', rfl, rfl, hmode'.opmod, ?_⟩
  cases fs with
  | empty =>
    obtain ⟨hmasks, hlow, hhigh⟩ := Device.listen_empty hconfig hmode'
    exact ⟨hmasks, hlow, hhigh, Device.matchesFilter_of_zeroMasks hmasks⟩
  | full r => exact Device.listen_full hconfig hmode'

end Sys2Proof.Machine
end

section
/-! Every operation ends under the fairness premise of R151 (O47): a step of a rule is the same whatever turns are to
come, and it ends the operation or lowers a measure made of its position and the AttemptExpired draws left. -/

namespace Sys2Proof.Machine

/-! ### The measure -/

/-- How far a position is from the end of its rule, where each poll confirms its mode. INIT's reset comes before its
first ModeSet, every other operation's transactions after it (R23, R150, R160). -/
def stepsAhead : Instr → Point → Nat
  | _, .start => 14
  | .init _ _ _ _, .sent 0 => 13
  | _, .modeWritten .first => 12
  | _, .modePolled .first => 11
  | _, .sent k => 10 - k
  | _, .modeWritten .second => 1
  | _, .modePolled .second => 0

/-- The expired attempts that two ModeSets may need, or one (R150). -/
def quota (i : Instr) (p : Point) : Nat := if 11 ≤ stepsAhead i p then 10 else 5

/-- The environment has fixed enough true AttemptExpired draws for the attempts still to come (R151). -/
def Fair (i : Instr) (s : State) : Prop :=
  quota i s.scratch.point ≤ s.env.expiry.count true + (s.attempt - 1)

/-- An unconfirmed poll may take SEQ back by one position, and uses up one draw. -/
def weight (i : Instr) (s : State) : Nat := 2 * s.env.expiry.length + stepsAhead i s.scratch.point

/-- The operation `i` has ended in `t`, or has come nearer to its end than it was in `s`. -/
def Progress (i : Instr) (s t : State) : Prop := t.seqState ≠ .busy ∨ (Fair i t ∧ weight i t < weight i s)

theorem stepsAhead_poll (i : Instr) (c : ModeCall) :
    stepsAhead i (.modeWritten c) = stepsAhead i (.modePolled c) + 1 := by cases c <;> simp [stepsAhead]

theorem stepsAhead_sent (i : Instr) {k : Nat} (hk : 1 ≤ k) : stepsAhead i (.sent k) = 10 - k := by
  obtain ⟨k, rfl⟩ := Nat.exists_eq_add_of_le' hk
  cases i <;> rfl

theorem quota_le {i : Instr} {p q : Point} (h : stepsAhead i p ≤ stepsAhead i q) : quota i p ≤ quota i q := by
  unfold quota
  split_ifs <;> omega

theorem quota_bounds (i : Instr) (p : Point) : 5 ≤ quota i p ∧ quota i p ≤ 10 := by
  unfold quota
  split_ifs <;> omega

/-! ### A step with other turns to come -/

/-- The outcome `o'` is `o` with the turns `ts` to come, and a next state of `o` is progress. -/
def Advances (i : Instr) (s : State) (ts : List Turn) (o' o : Host.Outcome State Fault Refusal) : Prop :=
  o' = mapNext (turnTaken ts) o ∧ ∀ t, o = .next t → Progress i s t

/-- The same of a step that ends in `r`. -/
def AdvancesTo (i : Instr) (s : State) (ts : List Turn) (r' r : State) : Prop :=
  r' = turnTaken ts r ∧ Progress i s r

section
variable {i : Instr} {s : State} {ts : List Turn}

theorem deviceXfer_turns (tx : List Byte) (d : Device) (e : Env) (ts : List Turn) :
    deviceXfer tx d { e with turns := ts } =
      ⟨(deviceXfer tx d e).rx, (deviceXfer tx d e).dev, { (deviceXfer tx d e).env with turns := ts }⟩ := by
  have hbyte (e : Env) : drawByte { e with turns := ts } = ((drawByte e).1, { (drawByte e).2 with turns := ts }) := by
    unfold drawByte
    dsimp only
    split <;> rfl
  have hbytes (n : Nat) (e : Env) :
      drawBytes n { e with turns := ts } = ((drawBytes n e).1, { (drawBytes n e).2 with turns := ts }) := by
    induction n generalizing e with
    | zero => rfl
    | succ n ih => simp only [drawBytes, hbyte, ih]
  unfold deviceXfer
  split
  · rw [hbytes]
  · rw [hbytes]
  · simp only [hbyte, hbytes]

theorem seqXfer_turns (tx : List Byte) (p : Point) (s : State) :
    seqXfer tx p (turnTaken ts s) = turnTaken ts (seqXfer tx p s) := by
  rw [seqXfer_eq, seqXfer_eq, afterXfer]
  dsimp only
  rw [deviceXfer_turns]
  rfl

theorem seqXfer_expiry (tx : List Byte) (p : Point) (s : State) : (seqXfer tx p s).env.expiry = s.env.expiry := by
  obtain ⟨-, -, -, hexp, -⟩ := deviceXfer_keeps tx s.dev s.env
  exact hexp

/-- A transaction, after writes of the rule's own. -/
theorem advancesTo_xfer {s' : State} {p : Point} (tx : List Byte)
    (hfair : quota i p ≤ s'.env.expiry.count true + (s'.attempt - 1))
    (hweight : 2 * s'.env.expiry.length + stepsAhead i p < weight i s) :
    AdvancesTo i s ts (seqXfer tx p (turnTaken ts s')) (seqXfer tx p s') := by
  have hexp := seqXfer_expiry tx p s'
  refine ⟨seqXfer_turns tx p s', .inr ⟨?fair, ?weight⟩⟩
  case fair =>
    show quota i p ≤ (seqXfer tx p s').env.expiry.count true + (s'.attempt - 1)
    rwa [hexp]
  case weight =>
    show 2 * (seqXfer tx p s').env.expiry.length + stepsAhead i p < _
    rwa [hexp]

/-- One that takes no draw, nor ends a ModeSet. -/
theorem advancesTo_send {s' : State} {tx : List Byte} {p q : Point} (hf : Fair i s) (hq : s.scratch.point = q)
    (hp : stepsAhead i p < stepsAhead i q) (hexp : s'.env.expiry = s.env.expiry := by rfl)
    (hatt : s'.attempt - 1 = s.attempt - 1 := by rfl) :
    AdvancesTo i s ts (seqXfer tx p (turnTaken ts s')) (seqXfer tx p s') := by
  refine advancesTo_xfer tx ?fair ?weight
  case fair =>
    rw [hexp, hatt]
    exact (quota_le (hq ▸ hp.le)).trans hf
  case weight =>
    rw [hexp, weight, hq]
    omega

theorem advancesTo_finish {s' : State} (o : Operation) (r : OpResult) :
    AdvancesTo i s ts (finish o r (turnTaken ts s')) (finish o r s') := ⟨rfl, .inl nofun⟩

theorem advancesTo_raise {s' : State} (o : Operation) (e : ErrorCode) (info : Byte) :
    AdvancesTo i s ts (raiseError o e info (turnTaken ts s')) (raiseError o e info s') := by
  unfold raiseError
  split
  · exact ⟨rfl, .inl nofun⟩
  · exact advancesTo_finish ..

theorem AdvancesTo.ite {a a' b b' : State} {c : Prop} [Decidable c] (ha : AdvancesTo i s ts a' a)
    (hb : AdvancesTo i s ts b' b) : AdvancesTo i s ts (if c then a' else b') (if c then a else b) := by
  split
  · exact ha
  · exact hb

theorem advances_next {r r' : State} (h : AdvancesTo i s ts r' r) : Advances i s ts (.next r') (.next r) := by
  obtain ⟨rfl, h⟩ := h
  refine ⟨rfl, ?_⟩
  rintro _ ⟨⟩
  exact h

theorem advances_fault (f : Fault) : Advances i s ts (.fault f) (.fault f) :=
  ⟨rfl, fun _ h => by cases h⟩

theorem advances_readScratch {α : Type} {x : Option α} {rule rule' : α → Host.Outcome State Fault Refusal}
    (h : ∀ a, Advances i s ts (rule' a) (rule a)) :
    Advances i s ts (readScratch x rule') (readScratch x rule) := by
  cases x with
  | none => exact advances_fault _
  | some a => exact h a

theorem advances_unlessFault {rule rule' : Point → Host.Outcome State Fault Refusal} (hb : s.seqState = .busy)
    (h : ∀ p, s.scratch.point = p → Advances i s ts (rule' p) (rule p)) :
    Advances i s ts (unlessFault i (turnTaken ts s) rule') (unlessFault i s rule) := by
  have hf : s.seqState ≠ .fault := by simp [hb]
  rw [unlessFault_run i rule hf, unlessFault_run i (s := turnTaken ts s) rule' hf]
  exact h _ rfl

theorem advances_singleStep {r r' : State} (hb : s.seqState = .busy) (h : AdvancesTo i s ts r' r) :
    Advances i s ts (singleStep i (turnTaken ts s) r') (singleStep i s r) := by
  refine advances_unlessFault hb fun p hp => ?_
  split
  · exact advances_next h
  · exact advances_fault _

theorem advances_oneXfer {r r' : State} {o o' : Host.Outcome State Fault Refusal} (hb : s.seqState = .busy)
    (h : s.scratch.point = .start → AdvancesTo i s ts r' r) (ho : Advances i s ts o' o) :
    Advances i s ts (oneXfer i (turnTaken ts s) r' o') (oneXfer i s r o) := by
  refine advances_unlessFault hb fun p hp => ?_
  split
  · exact advances_next (h hp)
  · exact ho
  · exact advances_fault _

/-- ModeSet's start, outside an attempt (R150). -/
theorem advancesTo_modeStart {m : Mode} {c : ModeCall} {s' : State} {q : Point} (hf : Fair i s)
    (hq : s.scratch.point = q) (hp : stepsAhead i (.modeWritten c) < stepsAhead i q) (hatt : s.attempt = 0)
    (hexp : s'.env.expiry = s.env.expiry := by rfl) :
    AdvancesTo i s ts (modeStart m c (turnTaken ts s')) (modeStart m c s') :=
  advancesTo_send (s' := { s' with attempt := 1 }) hf hq hp hexp (by rw [hatt]; rfl)

/-- ModeSet after a poll: the caller goes on, the next transaction uses up a draw, or the operation ends (R150,
R151). -/
theorem advances_modePolledStep {m : Mode} {c : ModeCall} {e : ErrorCode}
    {rest rest' : State → Host.Outcome State Fault Refusal} (hf : Fair i s) (hp : s.scratch.point = .modePolled c)
    (ha : 1 ≤ s.attempt ∧ s.attempt ≤ 5)
    (hrest : Advances i s ts (rest' (turnTaken ts (modeConfirmed m s))) (rest (modeConfirmed m s))) :
    Advances i s ts (modePolledStep i m c e (turnTaken ts s) rest') (modePolledStep i m c e s rest) := by
  obtain ⟨hquota, -⟩ := quota_bounds i s.scratch.point
  have hahead := stepsAhead_poll i c
  have hquotas : quota i (.modeWritten c) = quota i (.modePolled c) := by cases c <;> simp [quota, stepsAhead]
  refine advances_readScratch fun canstat => ?_
  unfold modeCheck
  by_cases hm : canstat.extractLsb' Config.dev.opmod 3 = modeCode m
  · rw [if_pos hm, if_pos hm]
    exact hrest
  rw [if_neg hm, if_neg hm]
  obtain ⟨b, more, hexp, hdraw⟩ | ⟨hexp, -⟩ := drawExpiry_cases s.env
  case inr =>
    rw [Fair, hexp, List.count_nil] at hf
    omega
  have hdraw' : drawExpiry (turnTaken ts s).env = (b, { s.env with turns := ts, expiry := more }) := by
    simp only [drawExpiry, hexp]
  rw [Fair, hp, hexp, List.count_cons] at hf
  have hw : weight i s = 2 * (more.length + 1) + stepsAhead i (.modePolled c) := by rw [weight, hexp, hp]; rfl
  cases b with
  | false =>
    simp only [hdraw, hdraw', if_true]
    exact advances_next (advancesTo_xfer (s' := { s with env := { s.env with expiry := more } }) modePollFrame
      (by simpa using hf) (by dsimp only; omega))
  | true =>
    simp only [hdraw, hdraw', Bool.true_eq_false, if_false]
    by_cases hlt : s.attempt < Config.modeAttempts
    · simp only [hlt, if_true]
      refine advances_next (advancesTo_xfer
        (s' := { s with env := { s.env with expiry := more }, attempt := s.attempt + 1 }) (modeWriteFrame m) ?_ ?_)
      · rw [hquotas]
        dsimp only
        simp only [beq_self_eq_true, if_true] at hf
        omega
      · dsimp only
        omega
    · simp only [hlt, if_false]
      exact advances_next
        (advancesTo_raise (s' := { s with env := { s.env with expiry := more }, attempt := 0 }) ..)

theorem advancesTo_emit {p q : Point} (hf : Fair i s) (hq : s.scratch.point = q)
    (hp : stepsAhead i p < stepsAhead i q) (l : List Byte) :
    AdvancesTo i s ts (seqEmit l p (turnTaken ts s)) (seqEmit l p s) := by
  refine ⟨rfl, .inr ⟨(quota_le (hq ▸ hp.le)).trans hf, ?_⟩⟩
  show 2 * s.env.expiry.length + stepsAhead i p < _
  rw [weight, hq]
  omega

/-- The caller's transaction after its first ModeSet; what is left is enough for the second (R150). -/
theorem advancesTo_confirmed {m : Mode} {tx : List Byte} {p : Point} (hf : Fair i s)
    (hq : s.scratch.point = .modePolled .first) (ha : s.attempt ≤ 5) (hp : stepsAhead i p ≤ 10) :
    AdvancesTo i s ts (seqXfer tx p (turnTaken ts (modeConfirmed m s))) (seqXfer tx p (modeConfirmed m s)) := by
  have hpolled : stepsAhead i (.modePolled .first) = 11 := by simp [stepsAhead]
  rw [Fair, hq, quota, if_pos hpolled.ge] at hf
  refine advancesTo_xfer tx ?fair ?weight
  case fair =>
    rw [quota, if_neg (by omega)]
    show 5 ≤ s.env.expiry.count true + 0
    omega
  case weight =>
    rw [weight, hq, hpolled]
    show 2 * s.env.expiry.length + _ < _
    omega

end

/-! ### Every rule advances -/

theorem initFrame_eq_none {k : Nat} (h : k = 0 ∨ 8 ≤ k) : initFrame k = none := by
  obtain rfl | h := h
  · rfl
  · obtain ⟨k, rfl⟩ := Nat.exists_eq_add_of_le' h
    rfl

section
variable {i : Instr} {s : State} {ts : List Turn} (h : Inv s) (hb : s.seqState = .busy)
include h

/-- Outside ModeSet no attempt runs (R24). -/
theorem advancesTo_begin {m : Mode} {c : ModeCall} {s' : State} {q : Point} (hf : Fair i s)
    (hq : s.scratch.point = q) (hp : stepsAhead i (.modeWritten c) < stepsAhead i q)
    (hout : inModeSet q = false := by rfl) (hexp : s'.env.expiry = s.env.expiry := by rfl) :
    AdvancesTo i s ts (modeStart m c (turnTaken ts s')) (modeStart m c s') :=
  advancesTo_modeStart hf hq hp (h.attempt_zero (.inr (hq ▸ hout))) hexp

omit h in
theorem advances_poll {c : ModeCall} (hf : Fair i s) (hp : s.scratch.point = .modeWritten c) :
    Advances i s ts (.next (modePoll c (turnTaken ts s))) (.next (modePoll c s)) :=
  advances_next (advancesTo_send hf hp (by rw [stepsAhead_poll]; exact Nat.lt_succ_self _))

include hb

/-- ModeSet after a poll, in a state that meets the invariant. -/
theorem advances_polled {m : Mode} {c : ModeCall} {e : ErrorCode}
    {rest rest' : State → Host.Outcome State Fault Refusal} (hf : Fair i s) (hp : s.scratch.point = .modePolled c)
    (hrest : s.attempt ≤ 5 →
      Advances i s ts (rest' (turnTaken ts (modeConfirmed m s))) (rest (modeConfirmed m s))) :
    Advances i s ts (modePolledStep i m c e (turnTaken ts s) rest') (modePolledStep i m c e s rest) := by
  obtain ⟨ha, ha'⟩ := h.attempt_bounds hb (by rw [hp]; rfl)
  exact advances_modePolledStep hf hp ⟨ha, ha'⟩ (hrest ha')

theorem execInit_advances {bitrate crystal : Nat} {mode : Mode} {silent : Bool}
    (hf : Fair (.init bitrate crystal mode silent) s) :
    Advances (.init bitrate crystal mode silent) s ts
      (execInit bitrate crystal mode silent (turnTaken ts s)) (execInit bitrate crystal mode silent s) := by
  unfold execInit
  refine advances_unlessFault hb fun p hp => ?_
  split
  · unfold initBegin
    dsimp only
    refine advances_next (.ite (advancesTo_raise ..) ?_)
    cases bitrateLookup s.cfg.bitrateTable bitrate crystal with
    | none => exact advancesTo_raise ..
    | some _ =>
      exact .ite (advancesTo_raise ..) (advancesTo_send (s' := forgetDevice s) hf hp (by simp [stepsAhead]))
  · exact advances_next (advancesTo_begin h hf hp (by simp [stepsAhead]))
  · exact advances_poll hf hp
  · exact advances_polled h hb hf hp fun ha => advances_readScratch fun _ =>
      advances_next (advancesTo_confirmed hf hp ha (by simp [stepsAhead]))
  · exact advances_next (advancesTo_begin h hf hp (by simp [stepsAhead]))
  · rename_i k _ _
    split
    · rename_i frame hk
      have hbound : ¬ (k = 0 ∨ 8 ≤ k) := fun hout => nomatch hk.symm.trans (initFrame_eq_none hout)
      refine advances_next (advancesTo_send hf hp ?_)
      rw [stepsAhead_sent _ (by omega), stepsAhead_sent _ (by omega)]
      omega
    · exact advances_fault _
  · exact advances_polled h hb hf hp fun _ =>
      advances_next (advancesTo_finish (s' := { modeConfirmed mode s with initialized := true }) ..)

theorem execSetMode_advances {mode : Mode} (hf : Fair (.setMode mode) s) :
    Advances (.setMode mode) s ts (execSetMode mode (turnTaken ts s)) (execSetMode mode s) := by
  unfold execSetMode
  refine advances_unlessFault hb fun p hp => ?_
  split
  · exact advances_next (.ite (advancesTo_begin h hf hp (by simp [stepsAhead])) (advancesTo_raise ..))
  · exact advances_poll hf hp
  · exact advances_polled h hb hf hp fun _ => advances_next (advancesTo_finish ..)
  · exact advances_fault _

theorem execListen_advances {fs : FilterSet} (hf : Fair (.listen fs) s) :
    Advances (.listen fs) s ts (execListen fs (turnTaken ts s)) (execListen fs s) := by
  unfold execListen
  refine advances_unlessFault hb fun p hp => ?_
  split
  · exact advances_next (.ite (advancesTo_raise ..) (.ite (advancesTo_raise ..) (.ite (advancesTo_raise ..)
      (advancesTo_begin (s' := { s with scratch := { s.scratch with prior := curModeKnown s.curMode } }) h hf hp
        (by simp [stepsAhead])))))
  · exact advances_poll hf hp
  · exact advances_polled h hb hf hp fun ha =>
      advances_next (advancesTo_confirmed hf hp ha (by simp [stepsAhead]))
  · cases fs with
    | empty => exact advances_readScratch fun _ => advances_next (advancesTo_begin h hf hp (by simp [stepsAhead]))
    | full r => exact advances_next (advancesTo_send hf hp (by simp [stepsAhead]))
  · cases fs with
    | empty => exact advances_fault _
    | full r => exact advances_next (advancesTo_send hf hp (by simp [stepsAhead]))
  · cases fs with
    | empty => exact advances_fault _
    | full r => exact advances_readScratch fun _ => advances_next (advancesTo_begin h hf hp (by simp [stepsAhead]))
  · exact advances_readScratch fun m => advances_polled h hb hf hp fun _ =>
      advances_next (advancesTo_finish (s' := { modeConfirmed m s with filtersLocked := true }) ..)
  · exact advances_fault _

omit h in
theorem execSend_advances {f : CanFrame} (hf : Fair (.send f) s) :
    Advances (.send f) s ts (execSend f (turnTaken ts s)) (execSend f s) := by
  unfold execSend
  refine advances_unlessFault hb fun p hp => ?_
  split
  · exact advances_next (.ite (advancesTo_raise ..) (.ite (advancesTo_raise ..)
      (.ite (advancesTo_send hf hp (by simp [stepsAhead])) (advancesTo_raise ..))))
  · refine advances_readScratch fun st => advances_next ?_
    unfold sendLoad
    dsimp only
    split
    · exact advancesTo_raise (s' := { s with scratch := { s.scratch with st := some st } }) ..
    · rename_i sel _
      exact advancesTo_send (s' := { s with scratch := { s.scratch with st := some st, sel := some sel } }) hf hp
        (by simp [stepsAhead])
  · exact advances_readScratch fun _ => advances_next (advancesTo_send hf hp (by simp [stepsAhead]))
  · exact advances_readScratch fun _ => advances_next (advancesTo_finish ..)
  · exact advances_fault _

omit h hb in
theorem advancesTo_pollSecond {s' : State} {st : Byte} {q : Point} (hf : Fair .pollReceive s)
    (hq : s.scratch.point = q) (hp : stepsAhead .pollReceive (.sent 2) < stepsAhead .pollReceive q)
    (hexp : s'.env.expiry = s.env.expiry := by rfl) (hatt : s'.attempt - 1 = s.attempt - 1 := by rfl) :
    AdvancesTo .pollReceive s ts (pollSecond st (turnTaken ts s')) (pollSecond st s') :=
  .ite (advancesTo_send hf hq hp hexp hatt) (advancesTo_finish (s' := { s' with rxFifo := [] }) ..)

omit h in
theorem execPollReceive_advances (hf : Fair .pollReceive s) :
    Advances .pollReceive s ts (execPollReceive (turnTaken ts s)) (execPollReceive s) := by
  refine advances_unlessFault hb fun p hp => ?_
  split
  · exact advances_next (.ite (advancesTo_send hf hp (by simp [stepsAhead])) (advancesTo_raise ..))
  · refine advances_readScratch fun st => advances_next ?_
    let s' : State := { s with scratch := { s.scratch with st := some st } }
    exact .ite (advancesTo_send (s' := s') hf hp (by simp [stepsAhead]))
      (advancesTo_pollSecond (s' := s') hf hp (by simp [stepsAhead]))
  · exact advances_readScratch fun rx => advances_readScratch fun img => advances_readScratch fun st =>
      advances_next (advancesTo_pollSecond (s' := pollPush (pollBuf rx) img s) hf hp (by simp [stepsAhead]))
  · exact advances_readScratch fun rx => advances_readScratch fun img =>
      advances_next (advancesTo_finish (s' := { pollPush (pollBuf rx) img s with rxFifo := [] }) ..)
  · exact advances_fault _

/-- Every step of an operation advances it, whatever turns are to come. -/
theorem exec_advances (hi : isHostOp i = true) (hf : Fair i s) :
    Advances i s ts (exec i (turnTaken ts s)) (exec i s) := by
  cases i with
  | getStatus | decId | decDlc | decFrame => exact advances_singleStep hb (advancesTo_finish ..)
  | encId | encDlc | uartCks | uartBuild =>
    exact advances_singleStep hb (.ite (advancesTo_raise ..) (advancesTo_finish ..))
  | encFrame =>
    exact advances_singleStep hb
      (.ite (advancesTo_raise ..) (.ite (advancesTo_raise ..) (advancesTo_finish ..)))
  | uartParse bytes =>
    refine advances_singleStep hb ?_
    split
    · exact advancesTo_raise ..
    · exact advancesTo_finish ..
  | uartSend type payload =>
    unfold exec execUartSend
    refine advances_unlessFault hb fun p hp => ?_
    split
    · exact advances_next (.ite (advancesTo_raise ..) (advancesTo_emit hf hp (by simp [stepsAhead]) _))
    · exact advances_next (advancesTo_finish ..)
    · exact advances_fault _
  | spiReset =>
    exact advances_oneXfer hb (fun hp => advancesTo_send (s' := forgetDevice s) hf hp (by simp [stepsAhead]))
      (advances_next (advancesTo_finish ..))
  | regWrite | bitModify | rts | loadTx =>
    exact advances_oneXfer hb
      (fun hp => .ite (advancesTo_raise ..) (advancesTo_send hf hp (by simp [stepsAhead])))
      (advances_next (advancesTo_finish ..))
  | regRead | readRx =>
    exact advances_oneXfer hb
      (fun hp => .ite (advancesTo_raise ..) (advancesTo_send hf hp (by simp [stepsAhead])))
      (advances_readScratch fun _ => advances_next (advancesTo_finish ..))
  | readStatus | rxStatus =>
    exact advances_oneXfer hb (fun hp => advancesTo_send hf hp (by simp [stepsAhead]))
      (advances_readScratch fun _ => advances_next (advancesTo_finish ..))
  | busState =>
    exact advances_oneXfer hb
      (fun hp => .ite (advancesTo_send hf hp (by simp [stepsAhead])) (advancesTo_raise ..))
      (advances_readScratch fun _ => advances_next (advancesTo_finish ..))
  | init => exact execInit_advances h hb hf
  | setMode => exact execSetMode_advances h hb hf
  | send => exact execSend_advances hb hf
  | pollReceive => exact execPollReceive_advances hb hf
  | listen => exact execListen_advances h hb hf
  | spiInstrReset | spiRead | spiReadRxBuffer | spiWrite | spiLoadTxBuffer | spiRts | spiReadStatus
  | spiRxStatus | spiBitModify => cases hi

end

/-! ### Runs of SEQ's turns -/

/-- Some number of SEQ's turns leads out of BUSY, whatever turns come after them (R151). -/
def Terminates (s : State) : Prop :=
  ∃ k : Nat, ∀ more : List Turn, ∃ t : State,
    Sys2Proof.core.run k (turnTaken (List.replicate k .seq ++ more) s) = .next t ∧ t.seqState ≠ .busy

section
variable {s t : State}

/-- SEQ's turn. -/
theorem run_seq (hl : s.link = none) (hb : s.seqState = .busy) {rest : List Turn}
    (hstep : busyStep (turnTaken rest s) = .next (turnTaken rest t)) (k : Nat) :
    Sys2Proof.core.run (k + 1) (turnTaken (.seq :: rest) s) = Sys2Proof.core.run k (turnTaken rest t) := by
  have hseq : step (turnTaken (.seq :: rest) s) = seqStep (turnTaken rest s) :=
    step_chosen (s := turnTaken (.seq :: rest) s) hl rfl
  have hbusy : seqStep (turnTaken rest s) = busyStep (turnTaken rest s) := by simp only [seqStep, hb]
  have hcore : Sys2Proof.core.step (turnTaken (.seq :: rest) s) = .next (turnTaken rest t) :=
    hseq.trans (hbusy.trans hstep)
  simp only [Host.Core.run, hcore]

theorem terminates_of_ended (hl : s.link = none) (hb : s.seqState = .busy)
    (hstep : ∀ ts, busyStep (turnTaken ts s) = .next (turnTaken ts t)) (ht : t.seqState ≠ .busy) : Terminates s :=
  ⟨1, fun more => ⟨turnTaken more t, run_seq hl hb (hstep more) 0, ht⟩⟩

theorem terminates_of_next (hl : s.link = none) (hb : s.seqState = .busy)
    (hstep : ∀ ts, busyStep (turnTaken ts s) = .next (turnTaken ts t)) (ht : Terminates t) : Terminates s := by
  obtain ⟨k, hk⟩ := ht
  refine ⟨k + 1, fun more => ?_⟩
  obtain ⟨u, hrun, hu⟩ := hk more
  exact ⟨u, (run_seq hl hb (hstep _) k).trans hrun, hu⟩

theorem Prepared.link (h : Prepared s t) : t.link = s.link := by rw [h]

theorem raiseError_link (o : Operation) (e : ErrorCode) (info : Byte) (s : State) :
    (raiseError o e info s).link = s.link := by
  obtain ⟨-, heq⟩ | ⟨-, heq⟩ := raiseError_cases o e info s
  · rw [heq, enterFault_link]
  · rw [heq, finish_link]

/-- An instruction puts nothing on the device's port. -/
theorem exec_link {i : Instr} (h : exec i s = .next t) (hl : s.link = none) : t.link = none := by
  cases exec_cases h with
  | faulted _ => exact hl
  | port _ => rfl
  | running _ ht =>
    cases ht with
    | emit l p => exact hl
    | xfer tx p hprep => exact hprep.link.trans hl
    | value v hprep => exact hprep.link.trans hl
    | error e info hprep => exact (raiseError_link ..).trans (hprep.link.trans hl)

end

/-- An operation ends, by induction on the measure. -/
theorem terminates_of_fair {c : Command} {i : Instr} {s : State} (h : Inv s) (hb : s.seqState = .busy)
    (hl : s.link = none) (hop : s.op = some c) (hd : decodeHost c = .ok i) (hf : Fair i s) : Terminates s := by
  induction hn : weight i s using Nat.strong_induction_on generalizing s with
  | h n ih =>
    subst hn
    have hbusy : busyStep s = exec i s := by simp only [busyStep, hop, hd]
    obtain ⟨t, hstep, hinv⟩ := busyStep_keeps h hb
    rw [hbusy] at hstep
    have hall (ts : List Turn) : busyStep (turnTaken ts s) = .next (turnTaken ts t) := by
      obtain ⟨heq, -⟩ := exec_advances (ts := ts) h hb (isHostOp_of_decodeHost hd) hf
      rw [hstep] at heq
      simp only [busyStep, hop, hd]
      exact heq
    obtain ⟨-, hprogress⟩ := exec_advances (ts := []) h hb (isHostOp_of_decodeHost hd) hf
    by_cases ht : t.seqState = .busy
    case neg => exact terminates_of_ended hl hb hall ht
    case pos =>
      obtain hended | ⟨hfair, hless⟩ := hprogress t hstep
      · exact absurd ht hended
      · have hop' : t.op = some c := (exec_leavesOthers hstep).op.trans hop
        exact terminates_of_next hl hb hall (ih _ hless hinv ht (exec_link hstep hl) hop' hfair rfl)

/-- Settles O47: the operation's steps lower the measure (`exec_advances`, `terminates_of_fair`); an illegal opcode
ends in one step (R91). -/
theorem operationsTerminate : Obligations.OperationsTerminate := by
  intro s h hb hl hten
  show Terminates s
  obtain ⟨-, hisop⟩ := h.offers
  have hpos := h.position hb
  cases hop : s.op with
  | none =>
    rw [hop] at hpos
    exact hpos.elim
  | some c =>
    obtain ⟨i, hd⟩ | ⟨b, hd⟩ := decodeHost_of_isOperation (hisop c hop)
    · obtain ⟨-, hquota⟩ := quota_bounds i s.scratch.point
      refine terminates_of_fair h hb hl hop hd ?_
      exact hquota.trans (Nat.le_add_right_of_le hten)
    · refine terminates_of_ended (t := raiseError (.illegal b) .illegalCommand b s) hl hb (fun ts => ?_) nofun
      simp only [busyStep, hop, hd]
      rfl

end Sys2Proof.Machine
end

section
/-! The identifier, DLC and frame codec: the codec operations (O19), the round trips of identifiers (O21) and of
frames through the buffer image (O22). -/

namespace Sys2Proof.Machine

/-! ### The fields of an image that EncId writes -/

section
variable (id : Id)

@[simp] theorem decExt_encIdImage (ext : Bool) : decExt (encIdImage id ext) = ext := by
  cases ext with
  | true =>
    obtain ⟨-, -, -, hext, -⟩ := encIdImage_bits_ext id
    exact hext
  | false =>
    obtain ⟨-, -, hlow, -⟩ := encIdImage_bits_std id
    exact hlow 3 (by decide)

theorem sidlSid_encIdImage_ext : sidlSid (encIdImage id true) = id.extractLsb' 18 3 := by
  rw [sidlSid, encIdImage_sidl_ext]
  exact (BitVec.extractLsb'_append_eq_of_le (by decide)).trans BitVec.extractLsb'_append_eq_left

theorem sidlEid_encIdImage_ext : sidlEid (encIdImage id true) = id.extractLsb' 16 2 := by
  rw [sidlEid, encIdImage_sidl_ext]
  exact BitVec.extractLsb'_append_eq_right

theorem sidlSid_encIdImage_std : sidlSid (encIdImage id false) = id.extractLsb' 0 3 := by
  rw [sidlSid, encIdImage_sidl_std]
  exact BitVec.extractLsb'_append_eq_left

/-- EncId writes canonical images only (R193.2). -/
theorem idCanonical_encIdImage (ext : Bool) : idCanonical (encIdImage id ext) = true := by
  rw [idCanonical_eq, decExt_encIdImage]
  cases ext with
  | true =>
    obtain ⟨-, -, h4, -, h2, -⟩ := encIdImage_bits_ext id
    rw [h4, h2]
    rfl
  | false =>
    obtain ⟨-, -, hlow, heid8, heid0⟩ := encIdImage_bits_std id
    have heid : (encIdImage id false).sidl.extractLsb' 0 2 = 0b00#2 := by
      rw [encIdImage_sidl_std, BitVec.extractLsb'_append_eq_of_add_le (by decide)]
      decide
    rw [hlow 4 (by decide), hlow 2 (by decide), heid, heid8, heid0]
    rfl

end

/-! ### DecId after EncId -/

/-- The slices of an extended image are adjacent and cover the identifier. -/
theorem decIdValue_encIdImage_ext (id : Id) : decIdValue (encIdImage id true) = id := by
  rw [decIdValue, if_pos (decExt_encIdImage id true), sidlSid_encIdImage_ext, sidlEid_encIdImage_ext]
  calc
    _ = id.extractLsb' 21 8 ++ id.extractLsb' 18 3 ++ id.extractLsb' 16 2 ++ id.extractLsb' 8 8 ++
        id.extractLsb' 0 8 := rfl
    _ = id.extractLsb' 0 29 := by
      iterate 4 rw [BitVec.extractLsb'_append_extractLsb'_eq_extractLsb' (by decide)]
    _ = id := BitVec.extractLsb'_eq_self

/-- The slices of a standard image cover its 11 bits. -/
theorem decIdValue_encIdImage_std {id : Id} (h : id.toNat < 2 ^ 11) : decIdValue (encIdImage id false) = id := by
  rw [decIdValue, if_neg (by simp), sidlSid_encIdImage_std]
  calc
    _ = (id.extractLsb' 3 8 ++ id.extractLsb' 0 3).setWidth 29 := rfl
    _ = (id.extractLsb' 0 11).setWidth 29 := by
      rw [BitVec.extractLsb'_append_extractLsb'_eq_extractLsb' (by decide)]
    _ = id := by
      apply BitVec.eq_of_toNat_eq
      simp
      omega

theorem fitsWidth_false_iff (id : Id) : fitsWidth id false = true ↔ id.toNat < 2 ^ 11 :=
  decide_eq_true_iff

/-- R193.1. -/
theorem decIdValue_encIdImage {id : Id} {ext : Bool} (h : fitsWidth id ext = true) :
    decIdValue (encIdImage id ext) = id := by
  cases ext with
  | true => exact decIdValue_encIdImage_ext id
  | false => exact decIdValue_encIdImage_std ((fitsWidth_false_iff id).mp h)

/-- R193.3. -/
theorem encIdImage_injective {a b : Id} {x y : Bool} (ha : fitsWidth a x = true) (hb : fitsWidth b y = true)
    (h : encIdImage a x = encIdImage b y) : a = b ∧ x = y := by
  constructor
  · rw [← decIdValue_encIdImage ha, h, decIdValue_encIdImage hb]
  · rw [← decExt_encIdImage a x, h, decExt_encIdImage]

/-! ### EncId after DecId -/

/-- Canonical, bit by bit (R193.2). -/
theorem idCanonical_iff (img : IdImage) :
    idCanonical img = true ↔
      img.sidl.getLsbD 4 = false ∧ img.sidl.getLsbD 2 = false ∧
        (img.sidl.getLsbD 3 = false →
          img.sidl.getLsbD 1 = false ∧ img.sidl.getLsbD 0 = false ∧ img.eid8 = 0x00 ∧ img.eid0 = 0x00) := by
  have heid : ∀ b : Byte, b.extractLsb' 0 2 = 0b00#2 ↔ b.getLsbD 1 = false ∧ b.getLsbD 0 = false := by decide
  rw [idCanonical_eq, show decExt img = img.sidl.getLsbD 3 from rfl]
  cases img.sidl.getLsbD 3 with
  | true => simp
  | false => simp [heid, and_assoc]

theorem idImage_eq_of_fields {a b : IdImage} (hsidh : a.sidh = b.sidh) (hsidl : a.sidl = b.sidl)
    (heid8 : a.eid8 = b.eid8) (heid0 : a.eid0 = b.eid0) : a = b := by
  cases a
  cases b
  simp_all

section
variable {img : IdImage} (hcan : idCanonical img = true)
include hcan

/-- The identifier that DecId reads from an extended image falls apart into the image's fields again. -/
theorem encIdImage_decIdValue_ext (hext : decExt img = true) : encIdImage (decIdValue img) true = img := by
  have hbyte : ∀ b : Byte, b.getLsbD 4 = false → b.getLsbD 3 = true → b.getLsbD 2 = false →
      b.extractLsb' 5 3 ++ 0b010#3 ++ b.extractLsb' 0 2 = b := by decide
  obtain ⟨h4, h2, -⟩ := (idCanonical_iff img).mp hcan
  have hid : decIdValue img = img.sidh ++ sidlSid img ++ sidlEid img ++ img.eid8 ++ img.eid0 := if_pos hext
  apply idImage_eq_of_fields
  case hsidl =>
    rw [encIdImage_sidl_ext, hid]
    simp (disch := decide) only [BitVec.extractLsb'_append_eq_of_le, BitVec.extractLsb'_append_eq_of_add_le,
      Nat.reduceSub, BitVec.extractLsb'_eq_self]
    exact hbyte img.sidl h4 hext h2
  all_goals
    simp (disch := decide) only [encIdImage, hid, if_true, BitVec.extractLsb'_append_eq_of_le,
      BitVec.extractLsb'_append_eq_of_add_le, Nat.reduceSub, BitVec.extractLsb'_eq_self]

/-- The identifier that DecId reads from a standard image does so too; its other bits are 0. -/
theorem encIdImage_decIdValue_std (hext : decExt img = false) : encIdImage (decIdValue img) false = img := by
  have hbyte : ∀ b : Byte, b.getLsbD 4 = false → b.getLsbD 3 = false → b.getLsbD 2 = false →
      b.getLsbD 1 = false → b.getLsbD 0 = false → b.extractLsb' 5 3 ++ 0b00000#5 = b := by decide
  obtain ⟨h4, h2, hrest⟩ := (idCanonical_iff img).mp hcan
  obtain ⟨h1, h0, heid8, heid0⟩ := hrest hext
  have hid : decIdValue img = (img.sidh ++ sidlSid img).setWidth 29 := if_neg (by simp [hext])
  apply idImage_eq_of_fields
  case hsidh =>
    simp (disch := decide) only [encIdImage, hid, Bool.false_eq_true, if_false, BitVec.extractLsb'_setWidth_of_le,
      BitVec.extractLsb'_append_eq_left]
  case hsidl =>
    rw [encIdImage_sidl_std, hid, BitVec.extractLsb'_setWidth_of_le (by decide), BitVec.extractLsb'_append_eq_right]
    exact hbyte img.sidl h4 hext h2 h1 h0
  case heid8 => exact heid8.symm
  case heid0 => exact heid0.symm

theorem encIdImage_decIdValue : encIdImage (decIdValue img) (decExt img) = img := by
  cases hext : decExt img with
  | true => exact encIdImage_decIdValue_ext hcan hext
  | false => exact encIdImage_decIdValue_std hcan hext

end

/-- R193.2: what EncId writes is canonical, so nothing else comes back. -/
theorem encIdImage_decIdValue_iff (img : IdImage) :
    encIdImage (decIdValue img) (decExt img) = img ↔ idCanonical img = true :=
  ⟨fun h => h ▸ idCanonical_encIdImage .., encIdImage_decIdValue⟩

/-- Settles O21: DecId undoes EncId (`decIdValue_encIdImage`), EncId undoes DecId on the canonical images
(`encIdImage_decIdValue_iff`), and the type is SIDL's bit 3 (`decExt_encIdImage`). -/
theorem identifierRoundTrips : Obligations.IdentifierRoundTrips := by
  refine ⟨fun id ext h => ⟨decIdValue_encIdImage h, decExt_encIdImage id ext⟩,
    fun img => (encIdImage_decIdValue_iff img).trans (idCanonical_iff img),
    fun a b x y => encIdImage_injective, fun n hsame => ?_⟩
  have htypes : decExt (encIdImage n false) = decExt (encIdImage n true) := hsame
  simp at htypes

/-! ### The DLC byte -/

theorem decDlcLen_eq : ∀ b : Byte, decDlcLen b = min (b &&& 0x0F).toNat 8 := by decide

theorem decDlcLen_le (b : Byte) : decDlcLen b ≤ 8 := Nat.min_le_right ..

/-- DecDlc undoes EncDlc (R194, R195). -/
theorem decDlc_encDlcByte {n : Nat} (hn : n ≤ 8) (rtr : Bool) :
    decDlcLen (encDlcByte n rtr) = n ∧ decDlcRtr (encDlcByte n rtr) = rtr := by
  obtain ⟨hlen, hrtr, -⟩ := encDlcByte_fields hn rtr
  exact ⟨by rw [decDlcLen_eq, hlen, Nat.min_eq_left hn], hrtr⟩

/-- EncDlc undoes DecDlc on a clean byte with a length of at most 8. -/
theorem encDlcByte_decDlc :
    ∀ b : Byte, b.getLsbD 7 = false → b.getLsbD 5 = false → b.getLsbD 4 = false → (b &&& 0x0F).toNat ≤ 8 →
      encDlcByte (decDlcLen b) (decDlcRtr b) = b := by decide

/-- The DLC byte as R194 computes it. -/
theorem encDlcByte_eq_or {n : Nat} (hn : n ≤ 8) (rtr : Bool) :
    encDlcByte n rtr = (if rtr then 0x40 else 0x00) ||| BitVec.ofNat 8 n := by
  revert rtr
  interval_cases n <;> decide

/-! ### Frames and buffer images -/

theorem frameWf_iff (f : CanFrame) : f.wf = true ↔ f.data.length ≤ 8 ∧ fitsWidth f.id f.ext = true :=
  Bool.and_eq_true_iff.trans (and_congr_left' decide_eq_true_iff)

theorem fitsWidth_decIdValue (img : IdImage) : fitsWidth (decIdValue img) (decExt img) = true := by
  cases hext : decExt img with
  | true => exact decide_eq_true (decIdValue img).isLt
  | false =>
    have hsidh := img.sidh.isLt
    have hsidl := img.sidl.isLt
    rw [fitsWidth_false_iff, decIdValue_std (by simp [hext])]
    omega

/-- 13 bytes are a buffer image, whose bytes they are (R99). -/
theorem exists_imageOfBytes {l : List Byte} (h : l.length = 13) :
    ∃ img, imageOfBytes l = some img ∧ imageBytes img = l := by
  match l, h with
  | [_, _, _, _, _, _, _, _, _, _, _, _, _], _ => exact ⟨_, rfl, rfl⟩

theorem imageBytes_eq (img : BufferImage) :
    imageBytes img = idBytes img.ident ++ [img.dlc] ++ imageData img := rfl

theorem idBytes_injective {a b : IdImage} (h : idBytes a = idBytes b) : a = b := by
  obtain ⟨hsidh, hsidl, heid8, heid0⟩ : a.sidh = b.sidh ∧ a.sidl = b.sidl ∧ a.eid8 = b.eid8 ∧ a.eid0 = b.eid0 := by
    simpa [idBytes] using h
  exact idImage_eq_of_fields hsidh hsidl heid8 heid0

section
variable (src : RtrSource) (img : BufferImage)

theorem decFrameImage_length : (decFrameImage src img).data.length = decDlcLen img.dlc := by
  have h := decDlcLen_le img.dlc
  simpa [decFrameImage, imageData] using h

/-- DecFrame answers well-formed frames only (R198). -/
theorem decFrameImage_wf : (decFrameImage src img).wf = true :=
  (frameWf_iff _).mpr ⟨decFrameImage_length src img ▸ decDlcLen_le img.dlc, fitsWidth_decIdValue img.ident⟩

end

section
variable {src : RtrSource} {img : BufferImage}

theorem decFrameImage_rtr_dlc (h : src = .dlc6 ∨ decExt img.ident = true) :
    (decFrameImage src img).rtr = decDlcRtr img.dlc := by
  obtain rfl | hext := h
  · simp [decFrameImage]
  · simp [decFrameImage, hext]

theorem decFrameImage_rtr_sidl (hsrc : src = .sidl4) (hext : decExt img.ident = false) :
    (decFrameImage src img).rtr = img.ident.sidl.getLsbD 4 := by
  simp only [decFrameImage, hext, hsrc]
  rfl

/-- The remote flag comes back from an image with an encoded identifier and DLC byte, where the flag is read from
the DLC byte, or is 0 as SIDL's bit 4 is (R199). -/
theorem decFrameImage_rtr_encoded {f : CanFrame} (hf : f.data.length ≤ 8)
    (hid : img.ident = encIdImage f.id f.ext) (hdlc : img.dlc = encDlcByte f.data.length f.rtr)
    (h : src = .dlc6 ∨ f.ext = true ∨ f.rtr = false) : (decFrameImage src img).rtr = f.rtr := by
  have hext : decExt img.ident = f.ext := by rw [hid, decExt_encIdImage]
  by_cases hread : src = .dlc6 ∨ decExt img.ident = true
  · obtain ⟨-, hrtr⟩ := decDlc_encDlcByte hf f.rtr
    rw [decFrameImage_rtr_dlc hread, hdlc, hrtr]
  · obtain ⟨hsrc, hstd⟩ := not_or.mp hread
    have hrtr : f.rtr = false := (h.resolve_left hsrc).resolve_left (hext ▸ hstd)
    obtain ⟨h4, -⟩ := (idCanonical_iff _).mp (idCanonical_encIdImage f.id f.ext)
    rw [decFrameImage_rtr_sidl (by cases src <;> trivial) (by simpa using hstd), hid, h4, hrtr]

/-- DecFrame undoes EncFrame, whatever bytes pad the image (R199). -/
theorem decFrameImage_encoded {f : CanFrame} {pad : List Byte} (hf : f.wf = true)
    (himg : imageBytes img = encFrameBytes f ++ pad) (h : src = .dlc6 ∨ f.ext = true ∨ f.rtr = false) :
    decFrameImage src img = f := by
  obtain ⟨hlen, hfits⟩ := (frameWf_iff f).mp hf
  rw [imageBytes_eq, encFrameBytes, List.append_assoc _ f.data] at himg
  obtain ⟨hhead, hdata⟩ := List.append_inj himg rfl
  obtain ⟨hident, hdlc⟩ := List.append_inj hhead rfl
  have hid : img.ident = encIdImage f.id f.ext := idBytes_injective hident
  rw [List.singleton_inj] at hdlc
  obtain ⟨hcount, -⟩ := decDlc_encDlcByte hlen f.rtr
  calc
    decFrameImage src img = ⟨decIdValue img.ident, decExt img.ident, (decFrameImage src img).rtr,
        (imageData img).take (decDlcLen img.dlc)⟩ := rfl
    _ = ⟨f.id, f.ext, f.rtr, f.data⟩ := by
      rw [decFrameImage_rtr_encoded hlen hid hdlc h, hid, decIdValue_encIdImage hfits, decExt_encIdImage, hdlc, hcount,
        hdata, List.take_left]

/-- EncFrame undoes DecFrame up to the data that the length counts (R199). -/
theorem encFrameBytes_decFrameImage (hcan : idCanonical img.ident = true)
    (hdlc : encDlcByte (decDlcLen img.dlc) (decDlcRtr img.dlc) = img.dlc)
    (h : src = .dlc6 ∨ decExt img.ident = true) :
    encFrameBytes (decFrameImage src img) = (imageBytes img).take (5 + decDlcLen img.dlc) := by
  have hid : encIdImage (decFrameImage src img).id (decFrameImage src img).ext = img.ident :=
    encIdImage_decIdValue hcan
  rw [encFrameBytes, hid, decFrameImage_length, decFrameImage_rtr_dlc h, hdlc, imageBytes_eq, Nat.add_comm]
  rfl

end

/-- Settles O22: `decFrameImage_wf`; the two directions by `decFrameImage_encoded` and
`encFrameBytes_decFrameImage`. -/
theorem frameRoundTrips : Obligations.FrameRoundTrips := by
  refine ⟨fun src img => ⟨decFrameImage_wf src img, ?len⟩, fun f pad hf hpad => ?frame,
    fun img src hcan h7 h5 h4 hn hsrc => ?image⟩
  case len => rw [decFrameImage_length, decDlcLen_eq]
  case frame =>
    obtain ⟨hlen, -⟩ := (frameWf_iff f).mp hf
    obtain ⟨img, hsome, himg⟩ : ∃ img, imageOfBytes (encFrameBytes f ++ pad) = some img ∧
        imageBytes img = encFrameBytes f ++ pad := by
      apply exists_imageOfBytes
      simp [encFrameBytes, idBytes]
      omega
    exact ⟨img, hsome, decFrameImage_encoded hf himg (.inl rfl), fun h => decFrameImage_encoded hf himg (.inr h)⟩
  case image =>
    have hlen : decDlcLen img.dlc = (img.dlc &&& 0x0F).toNat := by rw [decDlcLen_eq, Nat.min_eq_left hn]
    rw [← hlen]
    exact encFrameBytes_decFrameImage hcan (encDlcByte_decDlc img.dlc h7 h5 h4 hn) hsrc

/-! ### The codec operations -/

section
variable {s : State} (h : BusyAt .start s)
include h

theorem execEncId_start (id : Id) (ext : Bool) :
    exec (.encId id ext) s =
      .next (if badId id ext then afterError (.legal (.encId id ext)) .idOutOfRange 0x00 s
        else afterReturn (.encId id ext) (.bytes (idBytes (encIdImage id ext))) s) := singleStep_start _ h

theorem execDecId_start (img : IdImage) :
    exec (.decId img) s = .next (afterReturn (.decId img) (.ident (decIdValue img) (decExt img)) s) :=
  singleStep_start _ h

theorem execEncDlc_start (n : Byte) (rtr : Bool) :
    exec (.encDlc n rtr) s =
      .next (if longCan n.toNat then
          afterError (.legal (.encDlc n rtr)) .payloadTooLong (lengthDetail n.toNat) s
        else afterReturn (.encDlc n rtr) (.byte (encDlcByte n.toNat rtr)) s) := singleStep_start _ h

theorem execDecDlc_start (b : Byte) :
    exec (.decDlc b) s = .next (afterReturn (.decDlc b) (.dlc (decDlcLen b) (decDlcRtr b)) s) :=
  singleStep_start _ h

theorem execEncFrame_start (f : CanFrame) :
    exec (.encFrame f) s =
      .next (if longCan f.data.length then
          afterError (.legal (.encFrame f)) .payloadTooLong (lengthDetail f.data.length) s
        else if badId f.id f.ext then afterError (.legal (.encFrame f)) .idOutOfRange 0x00 s
        else afterReturn (.encFrame f) (.bytes (encFrameBytes f)) s) := singleStep_start _ h

theorem execDecFrame_start (img : BufferImage) :
    exec (.decFrame img) s =
      .next (afterReturn (.decFrame img) (.frame (decFrameImage s.cfg.rtrSource img)) s) := singleStep_start _ h

end

/-- DecFrame on an image, field by field (R198). -/
theorem decFrameImage_eq (src : RtrSource) (img : BufferImage) :
    decFrameImage src img =
      { id := decIdValue img.ident
        ext := img.ident.sidl.getLsbD 3
        rtr :=
          if img.ident.sidl.getLsbD 3 = false ∧ src = .sidl4 then img.ident.sidl.getLsbD 4 else img.dlc.getLsbD 6
        data :=
          [img.d0, img.d1, img.d2, img.d3, img.d4, img.d5, img.d6, img.d7].take (min (img.dlc &&& 0x0F).toNat 8) } := by
  rw [← decDlcLen_eq]
  simp [decFrameImage, decExt, decDlcRtr, imageData]

/-- A byte's length detail is the byte (R250). -/
theorem lengthDetail_toNat (n : Byte) : lengthDetail n.toNat = n := by
  have h := n.isLt
  rw [lengthDetail, Nat.min_eq_left (by omega), BitVec.ofNat_toNat, BitVec.setWidth_eq]

/-- Settles O19: each operation's one step (`execEncId_start` and its companions), its checks decided by the operand,
and its value as the rule writes it (`encDlcByte_eq_or`, `decDlcLen_eq`, `decFrameImage_eq`). -/
theorem codecOperations : Obligations.CodecOperations := by
  intro s h
  refine ⟨fun id ext hfits => ?encId, fun img => execDecId_start h img, fun n rtr hn => ?encDlc, fun b => ?decDlc,
    fun f hf => ?encFrame, fun img => ?decFrame, fun id hid => ?badId, fun n rtr hn => ?longDlc,
    fun f hlen => ?longFrame, fun f hlen hext hid => ?badFrame⟩
  case encId =>
    rw [execEncId_start h, badId_eq_not_fitsWidth, hfits]
    rfl
  case encDlc =>
    rw [execEncDlc_start h, if_neg (by rw [longCan_iff]; omega), encDlcByte_eq_or hn, BitVec.ofNat_toNat,
      BitVec.setWidth_eq]
  case decDlc =>
    rw [execDecDlc_start h, decDlcLen_eq]
    rfl
  case encFrame =>
    obtain ⟨hlen, -⟩ := (frameWf_iff f).mp hf
    rw [execEncFrame_start h, if_neg (not_longCan_of_wf hf), not_badId_of_wf hf, encFrameBytes, encDlcByte_eq_or hlen]
    rfl
  case decFrame => rw [execDecFrame_start h, decFrameImage_eq]
  case badId => rw [execEncId_start h, if_pos (badId_of_large rfl hid)]
  case longDlc => rw [execEncDlc_start h, if_pos ((longCan_iff _).mpr hn), lengthDetail_toNat]
  case longFrame =>
    rw [execEncFrame_start h, if_pos ((longCan_iff _).mpr hlen)]
    rfl
  case badFrame =>
    rw [execEncFrame_start h, if_neg (by rw [longCan_iff]; omega), if_pos (badId_of_large hext hid)]

end Sys2Proof.Machine
end

section
/-! The UART framer: the UART operations (O23), UART_PARSE's reasons (O24) and its detection of a changed byte (O26). -/

namespace Sys2Proof.Machine

/-! ### The UART operations in their steps -/

section
variable {s : State} (h : BusyAt .start s)
include h

theorem execUartCks_start (type : Byte) (p : List Byte) :
    exec (.uartCks type p) s =
      .next (if longUart p.length then
          afterError (.legal (.uartCks type p)) .payloadTooLong (lengthDetail p.length) s
        else afterReturn (.uartCks type p) (.byte (uartCksByte type p)) s) := singleStep_start _ h

theorem execUartBuild_start (type : Byte) (p : List Byte) :
    exec (.uartBuild type p) s =
      .next (if longUart p.length then
          afterError (.legal (.uartBuild type p)) .payloadTooLong (lengthDetail p.length) s
        else afterReturn (.uartBuild type p) (.bytes (uartFrameBytes type p)) s) := singleStep_start _ h

theorem execUartSend_start (type : Byte) (p : List Byte) :
    exec (.uartSend type p) s =
      .next (if longUart p.length then
          afterError (.legal (.uartSend type p)) .payloadTooLong (lengthDetail p.length) s
        else afterEmit (uartFrameBytes type p) (.sent 0) s) := by
  rw [exec, execUartSend.eq_def, unlessFault_busyAt _ h]
  rfl

theorem execUartParse_error {l : List Byte} {reason : Byte} (hl : uartParseBytes l = .error reason) :
    exec (.uartParse l) s = .next (afterError (.legal (.uartParse l)) .frameCorrupt reason s) := by
  rw [exec, execUartParse, singleStep_start _ h, hl]
  rfl

theorem execUartParse_ok {l : List Byte} {type : Byte} {p : List Byte} (hl : uartParseBytes l = .ok (type, p)) :
    exec (.uartParse l) s = .next (afterReturn (.uartParse l) (.uart type p) s) := by
  rw [exec, execUartParse, singleStep_start _ h, hl]
  rfl

end

theorem execUartSend_sent0 {s : State} (h : BusyAt (.sent 0) s) (type : Byte) (p : List Byte) :
    exec (.uartSend type p) s = .next (afterReturn (.uartSend type p) .unit s) := by
  rw [exec, execUartSend.eq_def, unlessFault_busyAt _ h]
  rfl

theorem longUart_iff (n : Nat) : longUart n = true ↔ 255 < n := by simp [longUart, Config.uartMaxPayload]

/-- The detail of a payload past the one-byte length field (R250). -/
theorem lengthDetail_large {n : Nat} (h : 255 < n) : lengthDetail n = 0xFF := by
  rw [lengthDetail, Nat.min_eq_right (by omega)]
  rfl

/-- Settles O23: each operation's step from its start (`execUartCks_start` and its companions) with the length check
decided, and UART_SEND's second step. -/
theorem uartOperations : Obligations.UartOperations := by
  intro type p s
  refine ⟨fun hlen h => ?fits, fun h => execUartSend_sent0 h type p, fun hlen h => ?long⟩
  case fits =>
    have hshort : ¬ longUart p.length = true := by rw [longUart_iff]; omega
    rw [execUartCks_start h, execUartBuild_start h, execUartSend_start h, if_neg hshort, if_neg hshort, if_neg hshort]
    exact ⟨rfl, rfl, rfl⟩
  case long =>
    have hlong : longUart p.length = true := (longUart_iff _).mpr hlen
    rw [execUartCks_start h, execUartBuild_start h, execUartSend_start h, if_pos hlong, if_pos hlong, if_pos hlong,
      lengthDetail_large hlen]
    exact ⟨rfl, rfl, rfl⟩

/-! ### Parse on a list of at least 4 bytes -/

theorem uartParseBytes_short {l : List Byte} (h : l.length < 4) : uartParseBytes l = .error 1 := by
  match l, h with
  | [], _ => rfl
  | [_], _ => rfl
  | [_, _], _ => rfl
  | [_, _, _], _ => rfl

/-- A list of at least 4 bytes is a header, a type, a length, a body and a last byte. -/
theorem exists_uartFields {l : List Byte} (h : 4 ≤ l.length) :
    ∃ header type len q c, l = header :: type :: len :: (q ++ [c]) := by
  match l, h with
  | header :: type :: len :: b :: rest, _ =>
    exact ⟨header, type, len, (b :: rest).dropLast, (b :: rest).getLast (List.cons_ne_nil b rest),
      by rw [List.dropLast_append_getLast]⟩

/-- Parse's checks in their order, on the fields of a list of at least 4 bytes (R223). -/
theorem uartParseBytes_fields (header type len : Byte) (q : List Byte) (c : Byte) :
    uartParseBytes (header :: type :: len :: (q ++ [c])) =
      if header ≠ 0x2E then .error 2
      else if q.length ≠ len.toNat then .error 3
      else if c ≠ uartCksByte type q then .error 4
      else .ok (type, q) := by
  obtain ⟨b, rest, hbody⟩ : ∃ b rest, q ++ [c] = b :: rest := List.exists_cons_of_ne_nil (by simp)
  have hsize : (header :: type :: len :: (q ++ [c])).length ≠ 4 + len.toNat ↔ q.length ≠ len.toNat := by
    simp only [List.length_cons, List.length_append, List.length_nil]
    omega
  rw [hbody, uartParseBytes, ← hbody]
  dsimp only
  by_cases hheader : header ≠ 0x2E
  · rw [if_pos hheader]
    exact if_pos hheader
  rw [if_neg hheader]
  refine (if_neg hheader).trans ?_
  by_cases hlen : q.length ≠ len.toNat
  · rw [if_pos hlen, if_pos (hsize.mpr hlen)]
  rw [if_neg hlen, if_neg (mt hsize.mp hlen), ← not_not.mp hlen, List.drop_left, List.take_left]
  simp [ite_not]

/-- Settles O24: a short list is reason 1, and every other list has the fields on which Parse makes its checks
(`uartParseBytes_fields`). -/
theorem uartParseReasons : Obligations.UartParseReasons := by
  intro l s h n cks fails
  refine ⟨fun hlen => execUartParse_error h (uartParseBytes_short hlen), ?_⟩
  by_cases hlen : 4 ≤ l.length
  · obtain ⟨header, type, len, q, c, rfl⟩ := exists_uartFields hlen
    have hsize : (header :: type :: len :: (q ++ [c])).length = 4 + n ↔ q.length = len.toNat := by
      simp only [List.length_cons, List.length_append, List.length_nil, n, List.getD_cons_succ, List.getD_cons_zero]
      omega
    have hpayload (hq : q.length = len.toNat) : (q ++ [c]).take n = q := List.take_left' hq
    have hcks (hq : q.length = len.toNat) : cks = uartCksByte type q := by
      change uartCksByte type ((q ++ [c]).take n) = _
      rw [hpayload hq]
    have hlast (hq : q.length = len.toNat) : (header :: type :: len :: (q ++ [c])).getD (3 + n) 0 = c := by
      rw [Nat.add_comm, show n = q.length from hq.symm]
      simp
    have hparse := uartParseBytes_fields header type len q c
    refine ⟨fun _ (hheader : header ≠ 0x2E) => ?header, fun _ (hheader : header = 0x2E) hne => ?size,
      fun _ (hheader : header = 0x2E) heq hc => ?checksum, fun _ (hheader : header = 0x2E) heq hc => ?sound⟩
    case header => exact execUartParse_error h (hparse.trans (if_pos hheader))
    case size =>
      rw [if_neg (not_not.mpr hheader), if_pos (mt hsize.mpr hne)] at hparse
      exact execUartParse_error h hparse
    case checksum =>
      have hq := hsize.mp heq
      rw [hlast hq, hcks hq] at hc
      rw [if_neg (not_not.mpr hheader), if_neg (not_not.mpr hq), if_pos hc] at hparse
      exact execUartParse_error h hparse
    case sound =>
      have hq := hsize.mp heq
      rw [hlast hq, hcks hq] at hc
      rw [if_neg (not_not.mpr hheader), if_neg (not_not.mpr hq), if_neg (not_not.mpr hc)] at hparse
      change _ = Host.Outcome.next (afterReturn _ (.uart type ((q ++ [c]).take n)) s)
      rw [hpayload hq]
      exact execUartParse_ok h hparse
  · exact ⟨fun h4 => absurd h4 hlen, fun h4 => absurd h4 hlen, fun h4 => absurd h4 hlen, fun h4 => absurd h4 hlen⟩

/-! ### One changed byte -/

theorem uartCksByte_eq_iff (type type' : Byte) (p p' : List Byte) :
    uartCksByte type p = uartCksByte type' p' ↔
      (type.toNat + p.length + byteSum p) % 256 = (type'.toNat + p'.length + byteSum p') % 256 := by
  rw [uartCksByte, uartCksByte, BitVec.xor_left_inj, frameSum, frameSum, ← BitVec.toNat_inj, BitVec.toNat_ofNat,
    BitVec.toNat_ofNat]

/-- Another type byte has another checksum (R224). -/
theorem uartCksByte_type_injective {type type' : Byte} {p : List Byte}
    (h : uartCksByte type p = uartCksByte type' p) : type = type' := by
  have hsum := (uartCksByte_eq_iff ..).mp h
  have hlt := type.isLt
  have hlt' := type'.isLt
  exact BitVec.eq_of_toNat_eq (by omega)

theorem byteSum_set {p : List Byte} {j : Nat} (hj : j < p.length) (b : Byte) :
    byteSum (p.set j b) + p[j].toNat = byteSum p + b.toNat := by
  induction p generalizing j with
  | nil => cases hj
  | cons a p ih =>
    cases j with
    | zero =>
      simp only [List.set_cons_zero, byteSum, List.getElem_cons_zero]
      omega
    | succ j =>
      have hset := ih (Nat.lt_of_succ_lt_succ hj)
      simp only [List.set_cons_succ, byteSum, List.getElem_cons_succ]
      omega

/-- A payload with one byte changed has another checksum (R224). -/
theorem uartCksByte_set_injective {type b : Byte} {p : List Byte} {j : Nat} (hj : j < p.length)
    (h : uartCksByte type p = uartCksByte type (p.set j b)) : b = p[j] := by
  have hsum := (uartCksByte_eq_iff ..).mp h
  have hset := byteSum_set hj b
  have hlt := b.isLt
  have hlt' := p[j].isLt
  rw [List.length_set] at hsum
  exact BitVec.eq_of_toNat_eq (by omega)

/-- Parse on a list whose header and length are right turns on the checksum alone (R223). -/
theorem uartParseBytes_badChecksum {type len c : Byte} {q : List Byte} (hlen : q.length = len.toNat)
    (hc : c ≠ uartCksByte type q) : uartParseBytes (0x2E :: type :: len :: (q ++ [c])) = .error 4 := by
  rw [uartParseBytes_fields, if_neg (by simp), if_neg (by simpa using hlen), if_pos hc]

theorem toNat_lengthByte {n : Nat} (h : n ≤ 255) : (BitVec.ofNat 8 n).toNat = n := by
  rw [BitVec.toNat_ofNat]
  exact Nat.mod_eq_of_lt (by omega)

/-- Parse finds one changed byte of a valid frame at whichever field it stands (R224). -/
theorem uartParseBytes_set {type b : Byte} {p : List Byte} {k : Nat} (hlen : p.length ≤ 255) (hk : k < 4 + p.length)
    (hb : b ≠ (uartFrameBytes type p).getD k 0) :
    uartParseBytes ((uartFrameBytes type p).set k b) = .error (if k = 0 then 2 else if k = 2 then 3 else 4) := by
  have hfields :
      uartFrameBytes type p = 0x2E :: type :: BitVec.ofNat 8 p.length :: (p ++ [uartCksByte type p]) := rfl
  have hsize := toNat_lengthByte hlen
  rw [hfields] at hb ⊢
  match k with
  | 0 => exact (uartParseBytes_fields ..).trans (if_pos hb)
  | 1 => exact uartParseBytes_badChecksum hsize.symm fun h => hb (uartCksByte_type_injective h).symm
  | 2 =>
    have hne : p.length ≠ b.toNat := fun h => hb (BitVec.eq_of_toNat_eq (h.symm.trans hsize.symm))
    exact (uartParseBytes_fields ..).trans ((if_neg (by simp)).trans (if_pos hne))
  | j + 3 =>
    simp only [List.set_cons_succ, List.getD_cons_succ] at hb ⊢
    by_cases hj : j < p.length
    · rw [List.getD_append _ _ _ _ hj, List.getD_eq_getElem _ _ hj] at hb
      rw [List.set_append_left _ _ hj]
      exact uartParseBytes_badChecksum (by rw [List.length_set, hsize]) fun h => hb (uartCksByte_set_injective hj h)
    · obtain rfl : j = p.length := by omega
      rw [List.set_append_right _ _ (Nat.le_refl _), Nat.sub_self]
      exact uartParseBytes_badChecksum hsize.symm (by simpa using hb)

/-- Settles O26: `uartParseBytes_set` for one changed byte; two neighbouring payload bytes exchanged keep the sum. -/
theorem singleByteCorruptionIsDetected : Obligations.SingleByteCorruptionIsDetected :=
  ⟨fun _ _ _ _ _ h hlen hk hb => execUartParse_error h (uartParseBytes_set hlen hk hb),
    0x00, [0x00, 0x01], [0x01, 0x00], by decide, by decide⟩

end Sys2Proof.Machine
end

section
/-! URX, the UART receiver: its transition function (O27), and a whole frame taken from HUNT (O28). -/

namespace Sys2Proof.Machine

/-! ### The registers after a byte -/

section
variable {u : Urx} {b : Byte}

theorem urxNext_hunt_header (h : u.state = .hunt) (hb : b = 0x2E) : urxNext u b = { u with state := .type } := by
  rw [urxNext.eq_def, h]
  exact if_pos hb

theorem urxNext_hunt_other (h : u.state = .hunt) (hb : b ≠ 0x2E) : urxNext u b = u := by
  rw [urxNext.eq_def, h]
  exact if_neg hb

theorem urxNext_type (h : u.state = .type) : urxNext u b = { u with utype := b, sum := b, state := .len } := by
  rw [urxNext.eq_def, h]

theorem urxNext_len (h : u.state = .len) :
    urxNext u b =
      { u with len := b, sum := u.sum + b, cnt := 0, state := if b = 0x00 then .cks else .data } := by
  rw [urxNext.eq_def, h]
  rfl

theorem urxNext_data (h : u.state = .data) :
    urxNext u b =
      { u with
        buf := u.buf.setIfInBounds u.cnt b, sum := u.sum + b, cnt := u.cnt + 1,
        state := if u.cnt + 1 = u.len.toNat then .cks else .data } := by
  rw [urxNext.eq_def, h]
  rfl

theorem urxNext_cks (h : u.state = .cks) : urxNext u b = { u with state := .hunt } := by
  rw [urxNext.eq_def, h]

end

/-! ### The machine after a byte -/

section
variable {s : State} (b : Byte)

theorem urxByte_of_not_cks (h : s.urx.state ≠ .cks) :
    urxByte b s = { s with urx := urxNext s.urx b, history := s.history ++ [.uartRx b] } := by
  unfold urxByte
  cases hu : s.urx.state with
  | cks => exact absurd hu h
  | hunt | type | len | data => rfl

theorem urxByte_cks (h : s.urx.state = .cks) :
    urxByte b s =
      { deliver b { s with history := s.history ++ [.uartRx b] } with urx := { s.urx with state := .hunt } } := by
  rw [urxByte, urxNext_cks h, h]
  rfl

theorem urxEvents_cks (cfg : Params) {u : Urx} (h : u.state = .cks) :
    urxEvents cfg u b = .uartRx b :: deliverEvents cfg u b := by
  rw [urxEvents, h]

end

/-- Settles O27: each state's byte by the equation of `urxNext` in it. -/
theorem receiverTransitions : Obligations.ReceiverTransitions := by
  intro s b u goes
  have goes_of {v : Urx} (hstate : u.state ≠ .cks) (hv : urxNext u b = v) : goes v := by
    subst hv
    exact urxByte_of_not_cks b hstate
  refine ⟨fun h hb => ?huntHeader, fun h hb => ?huntOther, fun h => ?type, fun h hb => ?lenZero, fun h hb => ?len,
    fun h hend => ?dataLast, fun h hmore => ?data, fun h => urxByte_cks b h, fun h => ?none, fun rest h => ?some⟩
  case huntHeader => exact goes_of (by simp [h]) (urxNext_hunt_header h hb)
  case huntOther => exact goes_of (by simp [h]) (urxNext_hunt_other h hb)
  case type => exact goes_of (by simp [h]) (urxNext_type h)
  case lenZero => exact goes_of (by simp [h]) (by rw [urxNext_len h, if_pos hb])
  case len => exact goes_of (by simp [h]) (by rw [urxNext_len h, if_neg hb])
  case dataLast => exact goes_of (by simp [h]) (by rw [urxNext_data h, if_pos hend])
  case data => exact goes_of (by simp [h]) (by rw [urxNext_data h, if_neg hmore, ← h])
  case none => rw [urxStep, h]
  case some => rw [urxStep, h]

/-! ### Delivering -/

/-- R231: whether a complete frame is delivered, by its checksum and UART_CHECKSUM_ENFORCE. -/
def delivers (cfg : Params) (good : Bool) : Bool := good || !cfg.checksumEnforce

/-- R231: whether a complete frame is acknowledged, by UART_ACK_POLICY. -/
def acknowledges (cfg : Params) (delivered : Bool) : Bool :=
  if delivered then decide (cfg.ackPolicy ≠ .never) else decide (cfg.ackPolicy = .everyFrame)

theorem everyFrame_or_validOnly_iff (a : AckPolicy) : a = .everyFrame ∨ a = .validOnly ↔ a ≠ .never := by
  cases a with
  | everyFrame | validOnly | never => simp

/-- `deliverEvents`, by whether the frame is delivered and whether it is acknowledged (R231). -/
theorem deliverEvents_eq (cfg : Params) (u : Urx) (c : Byte) :
    deliverEvents cfg u c =
      (if delivers cfg (decide (c = urxExpected u)) then
          .uartFrame u.utype (urxPayload u u.len.toNat) (decide (c = urxExpected u))
        else .uartCorrupt u.utype u.len c (urxExpected u)) ::
        if acknowledges cfg (delivers cfg (decide (c = urxExpected u))) then [.uartTx [0xFF]] else [] := by
  unfold deliverEvents
  simp only [everyFrame_or_validOnly_iff]
  cases hd : delivers cfg (decide (c = urxExpected u)) with
  | true => exact (if_pos hd).trans (by simp [acknowledges, Config.uartAck])
  | false => exact (if_neg (ne_true_of_eq_false hd)).trans (by simp [acknowledges, Config.uartAck])

/-- The frame's own event is no unit; its acknowledgement is one (R231, R233). -/
theorem txUnits_deliverEvents (cfg : Params) (u : Urx) (c : Byte) :
    txUnits (deliverEvents cfg u c) =
      if acknowledges cfg (delivers cfg (decide (c = urxExpected u))) then [[0xFF]] else [] := by
  rw [deliverEvents_eq]
  cases delivers cfg (decide (c = urxExpected u)) with
  | true | false => simp [txUnits, apply_ite txUnits]

/-! ### A frame's bytes -/

theorem txUnits_uartRx (b : Byte) (es : List Event) : txUnits (.uartRx b :: es) = txUnits es := rfl

theorem urxFeed_append (l l' : List Byte) (s : State) : urxFeed (l ++ l') s = urxFeed l' (urxFeed l s) := by
  induction l generalizing s with
  | nil => rfl
  | cons b l ih => exact ih _

/-- URX has a frame's type and length, and `q` of its payload; in CKS where that is all of it (R230, R32). -/
structure Collects (type len : Byte) (q : List Byte) (u : Urx) : Prop where
  state : u.state = if q.length = len.toNat then .cks else .data
  utype : u.utype = type
  len : u.len = len
  cnt : u.cnt = q.length
  payload : urxPayload u u.cnt = q
  inv : UrxInv u

section
variable {type len b : Byte} {q : List Byte} {u : Urx}

/-- One more byte of the payload (R230). -/
theorem Collects.next (h : Collects type len q u) (hq : q.length < len.toNat) :
    Collects type len (q ++ [b]) (urxNext u b) := by
  have hinv := urxNext_inv b h.inv
  obtain ⟨hstate, hutype, hlen, hcnt, hpayload, -⟩ := h
  have hdata : u.state = .data := by rw [hstate, if_neg (Nat.ne_of_lt hq)]
  have hroom : u.cnt < 255 := by have := len.isLt; omega
  rw [urxNext_data hdata] at hinv ⊢
  exact
    { state := by simp [hcnt, hlen]
      utype := hutype
      len := hlen
      cnt := by simp [hcnt]
      payload := (urxPayload_push u b hroom).trans (by rw [hpayload])
      inv := hinv }

/-- With the whole payload, the checksum URX expects is that of the frame (R220, R231). -/
theorem Collects.expected (h : Collects type len q u) (hq : q.length = len.toNat) :
    urxExpected u = uartCksByte type q := by
  obtain ⟨hstate, hutype, hlen, -, hpayload, -, hsum⟩ := h
  rw [hstate, if_pos hq] at hsum
  obtain ⟨-, hsum⟩ := hsum
  rw [urxExpected, hsum, hutype, hlen, hpayload, uartCksByte, frameSum, hq]

end

section
variable {s : State}

/-- The payload's bytes (R230). -/
theorem urxFeed_payload {type len : Byte} {q p : List Byte} (h : Collects type len q s.urx)
    (hp : q.length + p.length = len.toNat) :
    ∃ u, urxFeed p s = { s with urx := u, history := s.history ++ p.map .uartRx } ∧
      Collects type len (q ++ p) u := by
  induction p generalizing q s with
  | nil => exact ⟨s.urx, by simp [urxFeed], by simpa using h⟩
  | cons b p ih =>
    rw [List.length_cons] at hp
    have hq : q.length < len.toNat := by omega
    have hcks : s.urx.state ≠ .cks := by simp [h.state, Nat.ne_of_lt hq]
    obtain ⟨u, hfeed, hu⟩ :=
      ih (s := urxByte b s) (q := q ++ [b]) (by rw [urxByte_of_not_cks b hcks]; exact h.next hq)
        (by rw [List.length_append, List.length_singleton]; omega)
    refine ⟨u, ?_, by simpa using hu⟩
    rw [urxFeed, hfeed, urxByte_of_not_cks b hcks]
    simp

/-- The header, the type and the length, from HUNT (R230). -/
theorem urxFeed_header (type len : Byte) (h : s.urx.state = .hunt) :
    ∃ u, urxFeed [0x2E, type, len] s =
        { s with urx := u, history := s.history ++ [0x2E, type, len].map .uartRx } ∧
      Collects type len [] u := by
  have hlen : len = 0x00 ↔ 0 = len.toNat := (BitVec.toNat_inj (x := len) (y := 0x00)).symm.trans eq_comm
  refine ⟨{ s.urx with
    utype := type, len := len, sum := type + len, cnt := 0, state := if len = 0x00 then .cks else .data }, ?feed, ?_⟩
  case feed =>
    rw [urxFeed, urxByte_of_not_cks _ (by simp [h]), urxNext_hunt_header h rfl, urxFeed,
      urxByte_of_not_cks _ (by simp), urxNext_type rfl, urxFeed, urxByte_of_not_cks _ (by simp), urxNext_len rfl,
      urxFeed]
    simp
  have hsum : type + len = BitVec.ofNat 8 (type.toNat + len.toNat + byteSum []) := by
    simp [byteSum, BitVec.ofNat_add]
  refine { state := if_congr hlen rfl rfl, utype := rfl, len := rfl, cnt := rfl, payload := rfl, inv := ?_ }
  by_cases hzero : len = 0x00
  · rw [if_pos hzero]
    exact ⟨Nat.zero_le 255, hlen.mp hzero, hsum⟩
  · rw [if_neg hzero]
    exact ⟨Nat.zero_le 255, Nat.pos_of_ne_zero (Ne.symm (mt hlen.mpr hzero)), hsum⟩

/-- All of a frame but its checksum byte, from HUNT (R230). -/
theorem urxFeed_body (type : Byte) {len : Byte} {p : List Byte} (h : s.urx.state = .hunt)
    (hp : p.length = len.toNat) :
    ∃ u, urxFeed ([0x2E, type, len] ++ p) s =
        { s with urx := u, history := s.history ++ ([0x2E, type, len] ++ p).map .uartRx } ∧
      Collects type len p u := by
  obtain ⟨u₀, hheader, hu₀⟩ := urxFeed_header type len h
  obtain ⟨u, hpayload, hu⟩ :=
    urxFeed_payload (s := urxFeed [0x2E, type, len] s) (q := []) (p := p) (by rw [hheader]; exact hu₀) (by simp [hp])
  refine ⟨u, ?_, hu⟩
  rw [urxFeed_append, hpayload, hheader, List.map_append, List.append_assoc]

end

/-- Settles O28: all but the checksum byte leaves URX with the frame in CKS (`urxFeed_body`), and the checksum byte
delivers it (`urxByte_eq`, `deliverEvents_eq`). -/
theorem receiverTakesAFrame : Obligations.ReceiverTakesAFrame := by
  intro s type c p hhunt hlen len frame good delivered acked t
  have hp : p.length = len.toNat := (toNat_lengthByte hlen).symm
  obtain ⟨u, hbody, hu⟩ := urxFeed_body type hhunt hp
  have hcks : u.state = .cks := by rw [hu.state, if_pos hp]
  have hpayload : urxPayload u u.len.toNat = p := by rw [hu.len, ← hp, ← hu.cnt, hu.payload]
  have hgood : decide (c = urxExpected u) = good := by rw [hu.expected hp]
  have hevents : deliverEvents s.cfg u c =
      (if delivered then .uartFrame type p good else .uartCorrupt type len c (uartCksByte type p)) ::
        if acked then [.uartTx [0xFF]] else [] := by
    rw [deliverEvents_eq, hgood, hpayload, hu.utype, hu.len, hu.expected hp]
    rfl
  have hunits : txUnits (deliverEvents s.cfg u c) = if acked then [[0xFF]] else [] := by
    rw [txUnits_deliverEvents, hgood]
    rfl
  have ht : t =
      { s with
        urx := { u with state := .hunt }
        uartTx := s.uartTx ++ if acked then [[0xFF]] else []
        history := s.history ++ frame.map .uartRx ++ deliverEvents s.cfg u c } := by
    change urxFeed ([0x2E, type, len] ++ p ++ [c]) s = _
    rw [urxFeed_append, hbody, urxFeed, urxFeed, urxByte_eq, urxEvents_cks c _ hcks, urxNext_cks hcks, txUnits_uartRx,
      hunits]
    simp [frame]
  rw [ht]
  refine ⟨rfl, rfl, hu.utype, hu.len, hu.cnt, hu.payload, rfl, ?_⟩
  rw [hevents]
  exact List.append_cons ..

end Sys2Proof.Machine
end

section
/-! FAULT: it is left by block reset alone (O15), every operation taken in it is refused (O14), and what raising an
error does (O16). -/

namespace Sys2Proof.Machine

/-! ### No agent but SEQ and block reset writes SEQ's registers -/

section
variable {s t : State} {c : Command} {i : Instr}

theorem urxStep_sameSeq (s : State) : SameSeq s (urxStep s) := by
  unfold urxStep
  split
  · rfl
  · exact urxByte_sameSeq _ { s with env := _ }

theorem hostStep_sameSeq (c : Command) (s : State) : SameSeq s (hostStep c s) := by
  obtain ⟨-, -, heq⟩ | heq := hostStep_cases c s
  · rw [heq]; rfl
  · rw [heq]; rfl

theorem deviceTurn_sameSeq (f : Device → Device) (s : State) : SameSeq s (deviceTurn f s) := by
  unfold deviceTurn
  split
  · rfl
  · rfl

theorem modeTurn_sameSeq (k : Nat) (s : State) : SameSeq s (modeTurn k s) := by
  unfold modeTurn
  dsimp only
  split
  · rfl
  · rfl

theorem linkStep_sameSeq {frame : List Byte} (h : linkStep frame s = .next t) : SameSeq s t := by
  obtain ⟨tx, hx⟩ := linkStep_transacts frame s
  cases hx.symm.trans h
  rfl

/-! ### Steps in FAULT -/

/-- In FAULT, SEQ waits or refuses the operation on the port (R21, R254). -/
theorem seqStep_fault_sameSeq (hf : s.seqState = .fault) (h : seqStep s = .next t) : SameSeq s t := by
  cases seqStep_cases h with
  | runs hb _ => cases hf.symm.trans hb
  | illegal _ hb => cases hf.symm.trans hb
  | waits _ => rfl
  | accepts _ hi => cases hf.symm.trans hi
  | refuses _ _ => rfl

theorem turnStep_fault_sameSeq {u : Turn} (hf : s.seqState = .fault) (hu : u ≠ .blockReset)
    (h : turnStep u s = .next t) : SameSeq s t := by
  cases u with
  | seq => exact seqStep_fault_sameSeq hf h
  | host c => cases h; exact hostStep_sameSeq c s
  | peer b => cases h; rfl
  | urx => cases h; exact urxStep_sameSeq s
  | blockReset => exact absurd rfl hu
  | deviceMode k => cases h; exact modeTurn_sameSeq k s
  | busFrame named img other => cases h; exact deviceTurn_sameSeq ..
  | txDone n named img other => cases h; exact deviceTurn_sameSeq ..

/-- R253: in FAULT no step but block reset writes a register of SEQ's other than `result`. -/
theorem step_fault_sameSeq (hf : s.seqState = .fault)
    (hreset : ¬ (s.link = none ∧ (drawTurn s.env).1 = .blockReset)) (h : step s = .next t) : SameSeq s t := by
  obtain ⟨frame, -, hs⟩ | ⟨hl, hs⟩ := step_cases s
  · exact linkStep_sameSeq (hs.symm.trans h)
  · exact turnStep_fault_sameSeq (s := { s with env := (drawTurn s.env).2 }) hf (fun hu => hreset ⟨hl, hu⟩)
      (hs.symm.trans h)

/-- In FAULT, SEQ takes the operation off the port and completes it (R21, R254). -/
theorem seqStep_fault (hf : s.seqState = .fault) (hp : s.env.hostPort = some c) :
    seqStep s = faultStep c (takeOffer s) := by
  simp only [seqStep, hf, hp]

theorem faultStep_illegal (hc : Opcode.ofByte c.opcode = none) :
    faultStep c s = .next (completeFaulted (.illegal c.opcode) s) := by
  simp only [faultStep, decodeHost_illegal hc]

end

/-- Settles O15: in FAULT a step that is no block reset keeps all of SEQ's registers but `result`
(`step_fault_sameSeq`). -/
theorem onlyBlockResetLeavesFault : Obligations.OnlyBlockResetLeavesFault := by
  intro s t hf hreset h
  have hsame : SameSeq s t := step_fault_sameSeq hf hreset h
  rw [hsame]
  exact ⟨hf, rfl, rfl, rfl, rfl, rfl⟩

/-- Settles O14: an operation's own meaning in FAULT is `exec_fault`; SEQ's step is that meaning for a legal operation
(`stepRunsTheDecodedInstruction`) and `faultStep_illegal` for an illegal opcode. -/
theorem faultRefusesEveryOperation : Obligations.FaultRefusesEveryOperation := by
  refine ⟨fun i s hi hf => exec_fault hi hf, fun s c rest hf hseq hp => ⟨fun i hd => ?legal, fun hc => ?illegal⟩⟩
  case legal =>
    obtain ⟨-, -, hfault⟩ := stepRunsTheDecodedInstruction
    rw [hfault s c i rest hf hseq hp hd]
    exact exec_fault (isHostOp_of_decodeHost hd) hf
  case illegal =>
    obtain ⟨hl, ht⟩ := hseq
    have hstep : step s = faultStep c (takeOffer (turnTaken rest s)) :=
      (step_chosen hl ht).trans (seqStep_fault (s := turnTaken rest s) hf hp)
    exact hstep.trans (faultStep_illegal hc)

/-- Settles O16: `raiseOp_fatal` and `raiseOp_nonfatal` by the error's class, `exec_fault` for Faulted; the codes are
R250's table. -/
theorem raisingAnError : Obligations.RaisingAnError := by
  intro i d s
  refine ⟨⟨?_, ?_, ?_, ?_⟩, fun e he => ?nonfatal, fun hi hf => ⟨exec_fault hi hf, rfl⟩, rfl, rfl, rfl, rfl, rfl, rfl,
    rfl, rfl, rfl⟩
  case nonfatal =>
    have hclass : errorFatal e = false := by
      rcases he with rfl | rfl | rfl | rfl | rfl | rfl | rfl | rfl <;> rfl
    exact raiseOp_nonfatal i d s hclass
  all_goals exact raiseOp_fatal i d s rfl

end Sys2Proof.Machine
end

section
/-! Block reset (R280): the step, and every register after it (O17). -/

namespace Sys2Proof.Machine

/-- With block reset asserted, the step is the reset of the state the turn was taken from. -/
theorem step_blockReset {s : State} {rest : List Turn} (hl : s.link = none)
    (ht : s.env.turns = .blockReset :: rest) : step s = .next (blockReset (turnTaken rest s)) :=
  step_chosen hl ht

/-- Settles O17: the step is `blockReset` (`step_blockReset`), whose reset values are those of R20 and R32, written
out in the scratch (`Scratch.unwritten`) and in URX (`Urx.reset`). -/
theorem blockReset_setsResetValues : Obligations.BlockReset := by
  intro s rest hl ht
  rw [step_blockReset hl ht, blockReset, Scratch.unwritten, Urx.reset]

end Sys2Proof.Machine
end
